-- ==== Sys2Proof/Word.lean ====
section
/-! DEFINITION. Word.lean: how this model writes the block's values.

The block has no machine word of one width: its widths are elaboration parameters (spec 00_scope.md R8), and its
arithmetic is on unbounded integers unless a rule says otherwise (R12). So a duration (30_encoding.md R81), a channel
code (R86), a steering code (R88) and the watchdog count (R92) are natural numbers here, and a throttle code (R89, two's
complement) is an integer; their widths are checked where a value enters through a port (Machine/Operands.lean,
Machine/ControlPolicy.lean), every step keeps them (Safety.lean, State.Typed), and Machine/Ports.lean gives each port
its bit vector (log entry 7). The one value that the spec decodes bit by bit is a bit vector. -/

namespace Sys2Proof

/-- The 8-bit condition word that selects each unit's operation in a cycle (30_encoding.md R95). -/
abbrev ConditionWord := BitVec 8

end Sys2Proof
end

