-- ==== Sys2Proof/Config.lean ====
section
/-! DEFINITION. Config.lean: what is fixed for a block (the elaboration parameters of 00_scope.md R8), the inputs of a
cycle, the external policy, and the two values that the spec leaves free: the environment's inputs and the policy. -/

namespace Sys2Proof

/-- The elaboration parameters a block is built with (00_scope.md R8): the independent rows of that table. `CAP`,
`CODE_W`, `WD_W` and `LEN_W` follow from them and are functions below and in Machine/Ports.lean. A model takes every
parameter as an argument (R11), so a state carries its own. -/
structure Params where
  /-- `N_CH`: channels per frame. -/
  nCh : Nat
  /-- `DUR_W`: width in bits of one duration. -/
  durW : Nat
  /-- `SYNC_THR`: sync-gap threshold, microseconds. -/
  syncThr : Nat
  /-- `BASELINE`: offset subtracted from a pair sum, microseconds. -/
  baseline : Nat
  /-- `SCALE`: normalisation scale, microseconds. -/
  scale : Nat
  /-- `TIMEOUT`: failsafe timeout, microsecond ticks. -/
  timeout : Nat
  /-- `STEER_W`: width of the steering code. -/
  steerW : Nat
  /-- `THR_W`: width of the throttle code. -/
  thrW : Nat
  /-- `NEUTRAL_STEER`: the steering code that failsafe forces. -/
  neutralSteer : Nat
  /-- `NEUTRAL_THR`: the throttle code that failsafe forces. -/
  neutralThr : Int
deriving DecidableEq, Repr

/-- The default column of 00_scope.md R8. -/
def Params.default : Params where
  nCh := 8
  durW := 16
  syncThr := 3000
  baseline := 986
  scale := 1024
  timeout := 500000
  steerW := 18
  thrW := 12
  neutralSteer := 92160
  neutralThr := 0

/-- `CAP = 2*N_CH + 2` (00_scope.md R9). -/
def Params.cap (p : Params) : Nat := 2 * p.nCh + 2

/-- The environment's inputs of one cycle: `rst` (10_state.md R40), `cap_valid` and `cap_dur` (R41), `us_tick`
(R42). -/
structure Inputs where
  rst : Bool
  usTick : Bool
  capValid : Bool
  capDur : Nat
deriving DecidableEq, Repr, Inhabited

/-- The result of the external policy: a new command, or none (43_control_policy.md R180). -/
inductive PolicyResult where
  | update (steer : Nat) (thr : Int)
  | hold
deriving DecidableEq, Repr, Inhabited

/-- Which ControlPolicy is wired to the block: the open parameter `policy` of 43_control_policy.md R180, as plain
data. Every pure function of the (finitely many) channel vectors is some `table`, so a statement about every state is
a statement about every policy. -/
inductive Policy where
  /-- The policy the integrator attaches, of which nothing is known (`Config.externalPolicy`). -/
  | external
  /-- The source's mapping, the reference instance of R182 to R187. -/
  | reference
  /-- A policy given by its values: the first row with the vector, `otherwise` where no row has it. -/
  | table (rows : List (List Nat × PolicyResult)) (otherwise : PolicyResult)
deriving DecidableEq, Repr

/-- FREE VALUE. The answer of a policy of which nothing is known (43_control_policy.md R180; log entry 3). It has no
body: no proof can see what it answers. -/
opaque Config.externalPolicy : List Nat → PolicyResult

/-- FREE VALUE. What the environment drives in the `n`-th cycle when nothing else says it (40_cycle.md R116: the
inputs of every cycle are free choices; log entry 2). It has no body. -/
opaque Config.freeInput : Nat → Inputs

end Sys2Proof
end

