-- ==== Sys2Proof/Syntax.lean ====
section
/-! DEFINITION. Syntax.lean: the block's operations, one constructor per row of spec/opcode_table.json; what one
condition word selects; and the stimulus notation in which test inputs are written (30_encoding.md R80, R97, R101,
R102). -/

namespace Sys2Proof

/-- The operations of the four units, the rows of the operation map (30_encoding.md R97). They carry no operand:
operands come from the state and the ports. -/
inductive Instr where
  | reset
  | decIdle
  | decTrim
  | decWait
  | decDecode
  | capNone
  | capPush
  | capDrop
  | wdClear
  | wdTick
  | wdHold
  | outUpdate
  | outPolicyHold
  | outOverride
  | outHold
deriving DecidableEq, Repr

/-- The units that each perform one operation in a cycle (30_encoding.md R80); `all` is the unit of RESET. -/
inductive OpUnit where
  | all
  | decoder
  | capture
  | watchdog
  | output
deriving DecidableEq, Repr

/-- The unit a row of the operation map belongs to (30_encoding.md R97). -/
def Instr.opUnit : Instr → OpUnit
  | .reset => .all
  | .decIdle => .decoder
  | .decTrim => .decoder
  | .decWait => .decoder
  | .decDecode => .decoder
  | .capNone => .capture
  | .capPush => .capture
  | .capDrop => .capture
  | .wdClear => .watchdog
  | .wdTick => .watchdog
  | .wdHold => .watchdog
  | .outUpdate => .output
  | .outPolicyHold => .output
  | .outOverride => .output
  | .outHold => .output

/-- What one condition word selects: RESET for every unit, or one operation for each of the four units
(30_encoding.md R97). -/
inductive Bundle where
  | reset
  | ops (dec cap wd out : Instr)
deriving DecidableEq, Repr

/-- The operations of a bundle, in the order of the operation map. -/
def Bundle.instrs : Bundle → List Instr
  | .reset => [.reset]
  | .ops dec cap wd out => [dec, cap, wd, out]

/-- One item of a stimulus line (30_encoding.md R101). -/
inductive StimItem where
  | push (d : Nat)
  | tick
  | rst
deriving DecidableEq, Repr

/-- A stimulus line: its items; the empty line is `NOP` (30_encoding.md R101). -/
abbrev StimLine := List StimItem

/-- A line or a pseudo-instruction of the stimulus notation (30_encoding.md R102). -/
inductive Stimulus where
  | line (l : StimLine)
  | idle (n : Nat)
  | waitUs (n : Nat)
  | frame (gap companion : Nat) (pairs : List (Nat × Nat))
  | frames (gap : Nat) (sums : List Nat)
deriving DecidableEq, Repr

end Sys2Proof
end

