-- ==== Sys2Proof/WellFormed.lean ====
section
/-! DEFINITION. WellFormed.lean: what a legal parameter set, policy, bundle, stimulus line and stimulus are. An
operation alone has no operand, so there is nothing to check on one. -/

namespace Sys2Proof

/-- The legal ranges of 00_scope.md R8. The ranges of the two NEUTRAL codes ("a legal steering code", "a legal
throttle code") are those of 30_encoding.md R88 and R89 (log entry 8). -/
abbrev Params.Legal (p : Params) : Prop :=
  1 ≤ p.nCh ∧
  2 ≤ p.durW ∧
  (1 ≤ p.syncThr ∧ p.syncThr ≤ 2 ^ p.durW - 1) ∧
  p.baseline ≤ 2 ^ (p.durW + 1) - 2 ∧
  1 ≤ p.scale ∧
  18 ≤ p.steerW ∧
  12 ≤ p.thrW ∧
  p.neutralSteer ≤ 184320 ∧
  (-1024 ≤ p.neutralThr ∧ p.neutralThr ≤ 1024)

/-- The reference instance needs `N_CH >= 3` and is refused otherwise (43_control_policy.md R182); every other policy
goes with every parameter set. -/
abbrev Policy.Allowed (q : Policy) (p : Params) : Prop :=
  q = .reference → 3 ≤ p.nCh

/-- Whether an operation is one that a decode cycle selects (`CW[0] = 1`, 30_encoding.md R97); CAP_NONE goes with
either. -/
def Instr.inDecodeCycle : Instr → Option Bool
  | .reset => none
  | .decIdle => some false
  | .decTrim => some false
  | .decWait => some false
  | .decDecode => some true
  | .capNone => none
  | .capPush => some false
  | .capDrop => some true
  | .wdClear => some true
  | .wdTick => some false
  | .wdHold => some false
  | .outUpdate => some true
  | .outPolicyHold => some true
  | .outOverride => some false
  | .outHold => some false

/-- A bundle that some legal condition word selects: each unit gets an operation of its own, and all agree on whether
the cycle is a decode cycle (30_encoding.md R96, R97). -/
def Bundle.wellFormed : Bundle → Bool
  | .reset => true
  | .ops dec cap wd out =>
    decide (dec.opUnit = .decoder) && decide (cap.opUnit = .capture) && decide (wd.opUnit = .watchdog) &&
    decide (out.opUnit = .output) &&
    (decide (cap.inDecodeCycle = none) || decide (cap.inDecodeCycle = dec.inDecodeCycle)) &&
    decide (wd.inDecodeCycle = dec.inDecodeCycle) && decide (out.inDecodeCycle = dec.inDecodeCycle)

/-- Whether an item is a `PUSH`. -/
def StimItem.isPush : StimItem → Bool
  | .push _ => true
  | .tick => false
  | .rst => false

/-- A pushed duration fits `DUR_W` bits (30_encoding.md R101). -/
def StimItem.fits (p : Params) : StimItem → Bool
  | .push d => decide (d < 2 ^ p.durW)
  | .tick => true
  | .rst => true

/-- At most one item of each kind on a line, and a pushed duration fits (30_encoding.md R101). -/
def StimLine.wellFormed (p : Params) (l : StimLine) : Bool :=
  decide (l.countP StimItem.isPush ≤ 1) && decide (l.count .tick ≤ 1) && decide (l.count .rst ≤ 1) &&
  l.all (StimItem.fits p)

/-- What R102 asks of the arguments of a pseudo-instruction: one pair or sum per channel, each `Si >= 400`, and every
duration it pushes fits `DUR_W` bits. -/
def Stimulus.wellFormed (p : Params) : Stimulus → Bool
  | .line l => StimLine.wellFormed p l
  | .idle _ => true
  | .waitUs _ => true
  | .frame g c pairs =>
    decide (pairs.length = p.nCh) && decide (g < 2 ^ p.durW) && decide (c < 2 ^ p.durW) &&
    pairs.all (fun ab => decide (ab.1 < 2 ^ p.durW) && decide (ab.2 < 2 ^ p.durW))
  | .frames g sums =>
    decide (sums.length = p.nCh) && decide (g < 2 ^ p.durW) && decide (400 < 2 ^ p.durW) &&
    sums.all (fun n => decide (400 ≤ n) && decide (n - 400 < 2 ^ p.durW))

end Sys2Proof
end

