-- ==== Sys2Proof/Decode.lean ====
section
/-! DEFINITION. Decode.lean: from bits to operations and back. The condition word (30_encoding.md R95 to R97): its
bits, the operation map as a list of rows, the decoder, and after it the encoders. The input word and the stimulus
notation (R100 to R102). -/

namespace Sys2Proof

/-- The bits of the condition word under their names (30_encoding.md R95). -/
structure CwBits where
  dec : Bool
  trm : Bool
  syn : Bool
  pv : Bool
  tk : Bool
  exp : Bool
  rst : Bool
  pu : Bool
deriving DecidableEq, Repr

/-- Each named bit at its place: DEC is bit 0, PU is bit 7 (30_encoding.md R95). -/
def CwBits.toWord (c : CwBits) : ConditionWord :=
  BitVec.ofNat 8 (c.dec.toNat + 2 * c.trm.toNat + 4 * c.syn.toNat + 8 * c.pv.toNat + 16 * c.tk.toNat
    + 32 * c.exp.toNat + 64 * c.rst.toNat + 128 * c.pu.toNat)

def CwBits.ofWord (w : ConditionWord) : CwBits where
  dec := w.getLsbD 0
  trm := w.getLsbD 1
  syn := w.getLsbD 2
  pv := w.getLsbD 3
  tk := w.getLsbD 4
  exp := w.getLsbD 5
  rst := w.getLsbD 6
  pu := w.getLsbD 7

/-- Why a condition word is rejected: the two constraints of 30_encoding.md R96, and a word that gives some unit no
row (which R97 says no legal word does). -/
inductive DecodeError where
  | severalDecoderActions
  | updateWithoutDecode
  | unitWithoutRow
deriving DecidableEq, Repr

/-- The constraints of 30_encoding.md R96, by name. -/
def CwBits.check (c : CwBits) : Option DecodeError :=
  if 1 < c.dec.toNat + c.trm.toNat + c.syn.toNat then some .severalDecoderActions
  else if c.pu && !c.dec then some .updateWithoutDecode
  else none

/-- A legal condition word (30_encoding.md R96). -/
def legalWord (w : ConditionWord) : Bool := (CwBits.ofWord w).check.isNone

/-- One row of the operation map: the bits that the pattern fixes (`mask`) and their values (`bits`). -/
structure OpRow where
  op : Instr
  mask : ConditionWord
  bits : ConditionWord
deriving DecidableEq, Repr

/-- The operation map (30_encoding.md R97), written from its patterns: a row's mask has a 1 where the pattern has a
0 or a 1. -/
def opTable : List OpRow := [
  ⟨.reset,         0b01000000, 0b01000000⟩,
  ⟨.decIdle,       0b01000111, 0b00000000⟩,
  ⟨.decTrim,       0b01000111, 0b00000010⟩,
  ⟨.decWait,       0b01000111, 0b00000100⟩,
  ⟨.decDecode,     0b01000111, 0b00000001⟩,
  ⟨.capNone,       0b01001000, 0b00000000⟩,
  ⟨.capPush,       0b01001001, 0b00001000⟩,
  ⟨.capDrop,       0b01001001, 0b00001001⟩,
  ⟨.wdClear,       0b01000001, 0b00000001⟩,
  ⟨.wdTick,        0b01010001, 0b00010000⟩,
  ⟨.wdHold,        0b01010001, 0b00000000⟩,
  ⟨.outUpdate,     0b11000001, 0b10000001⟩,
  ⟨.outPolicyHold, 0b11000001, 0b00000001⟩,
  ⟨.outOverride,   0b01100001, 0b00100000⟩,
  ⟨.outHold,       0b01100001, 0b00000000⟩]

/-- The pattern of a row selects the word. -/
def OpRow.selects (r : OpRow) (w : ConditionWord) : Bool := (w &&& r.mask) == r.bits

/-- The operation a unit performs under a condition word: each unit decodes the word by itself (30_encoding.md R97).
`none` where no row of the unit selects it. -/
def decodeUnit (u : OpUnit) (w : ConditionWord) : Option Instr :=
  (opTable.find? (fun r => decide (r.op.opUnit = u) && r.selects w)).map OpRow.op

/-- What a condition word selects, or why it is rejected. `RST = 1` comes first: then every unit performs RESET and
the other bits are ignored (30_encoding.md R95, R97). -/
def decode (w : ConditionWord) : Except DecodeError Bundle :=
  if (CwBits.ofWord w).rst then .ok .reset
  else
    match (CwBits.ofWord w).check with
    | some e => .error e
    | none =>
      match decodeUnit .decoder w, decodeUnit .capture w, decodeUnit .watchdog w, decodeUnit .output w with
      | some d, some c, some t, some o => .ok (.ops d c t o)
      | _, _, _, _ => .error .unitWithoutRow

/-- The row of an operation in the operation map. -/
def Instr.row (i : Instr) : OpRow :=
  (opTable.find? (fun r => decide (r.op = i))).getD ⟨i, 0, 0⟩

/-- A condition word of an operation: its row's fixed bits, and the bits of `fill` in the don't-care places. -/
def encode (i : Instr) (fill : ConditionWord) : ConditionWord :=
  (fill &&& ~~~i.row.mask) ||| i.row.bits

/-- The condition word of a bundle with every bit 0 that no row of it fixes to 1. -/
def encodeBundle (b : Bundle) : ConditionWord :=
  b.instrs.foldl (fun w i => w ||| i.row.bits) 0

/-- The operation a bare word is read as, where ONE operation is asked for: among the operations the word selects,
the first whose own pattern, with 0 in its don't-care places, is the word; the decoder's where there is none. A
condition word selects an operation for every unit, so four rows of the table can share one word (log entry 9). -/
def Bundle.named (b : Bundle) (w : ConditionWord) : Option Instr :=
  match b.instrs.find? (fun i => decide (i.row.bits = w)) with
  | some i => some i
  | none => b.instrs.head?

/-- The instruction that the decoder reads from a word of the opcode table: the table's words are 8-bit condition
words. -/
def decodeTableWord (nbits w : Nat) : Option Instr :=
  if nbits = 8 ∧ w < 256 then
    match decode (BitVec.ofNat 8 w) with
    | .ok b => b.named (BitVec.ofNat 8 w)
    | .error _ => none
  else none

/-! ### The input word and the stimulus notation -/

/-- The input word of a cycle, `DUR_W + 3` bits: `rst`, `us_tick`, `cap_valid`, `cap_dur` from the top; `cap_dur` is 0
when `cap_valid = 0` (30_encoding.md R100). -/
def encodeInput (durW : Nat) (i : Inputs) : Nat :=
  2 ^ (durW + 2) * i.rst.toNat + 2 ^ (durW + 1) * i.usTick.toNat + 2 ^ durW * i.capValid.toNat
    + (if i.capValid then i.capDur % 2 ^ durW else 0)

/-- The inputs an input word stands for; `none` for a number of more than `DUR_W + 3` bits. Every word of that width
has a meaning (30_encoding.md R98, R100). -/
def decodeInput (durW w : Nat) : Option Inputs :=
  if w < 2 ^ (durW + 3) then
    some { rst := w.testBit (durW + 2), usTick := w.testBit (durW + 1), capValid := w.testBit durW,
           capDur := w % 2 ^ durW }
  else none

/-- No input bit set: the line `NOP` (30_encoding.md R101). -/
def Inputs.nop : Inputs := { rst := false, usTick := false, capValid := false, capDur := 0 }

/-- The effect of one stimulus item on the cycle's inputs (30_encoding.md R101). -/
def Inputs.add (i : Inputs) : StimItem → Inputs
  | .push d => { i with capValid := true, capDur := d }
  | .tick => { i with usTick := true }
  | .rst => { i with rst := true }

/-- The inputs of the cycle a line stands for (30_encoding.md R101). -/
def lineInputs (l : StimLine) : Inputs := l.foldl Inputs.add .nop

/-- A line's encoding is its input word (30_encoding.md R101). -/
def encodeLine (p : Params) (l : StimLine) : Nat := encodeInput p.durW (lineInputs l)

/-- The lines of one `FRAME`: the gap, the companion, the pairs, and the `NOP` that is the decode cycle
(30_encoding.md R102). -/
def frameLines (g c : Nat) (pairs : List (Nat × Nat)) : List StimLine :=
  [.push g] :: [.push c] :: pairs.flatMap (fun ab => [[.push ab.1], [.push ab.2]]) ++ [[]]

/-- The lines a stimulus stands for (30_encoding.md R102), `none` where it is not well-formed. -/
def Stimulus.expand (p : Params) (x : Stimulus) : Option (List StimLine) :=
  if x.wellFormed p then
    match x with
    | .line l => some [l]
    | .idle n => some (List.replicate n [])
    | .waitUs n => some (List.replicate n [.tick])
    | .frame g c pairs => some (frameLines g c pairs)
    | .frames g sums => some (frameLines g 400 (sums.map (fun s => (400, s - 400))))
  else none

/-- A `TICK` added to every expanded line with `;` (30_encoding.md R102). -/
def withTicks (ls : List StimLine) : List StimLine := ls.map (fun l => if .tick ∈ l then l else l ++ [.tick])

/-- The inputs of the cycles that a list of stimuli stands for. -/
def stimulusInputs (p : Params) : List Stimulus → Option (List Inputs)
  | [] => some []
  | x :: xs =>
    match x.expand p, stimulusInputs p xs with
    | some ls, some rest => some (ls.map lineInputs ++ rest)
    | _, _ => none

end Sys2Proof
end

