-- ==== Sys2Proof/Machine/State.lean ====
section
/-! DEFINITION. Machine/State.lean: the state of the block (10_state.md R20), the parameters and the policy it is built
with, the outputs of the cycle just run, and the environment's side; the reasons a step can stop; and the state after
reset (70_reset_and_hazards.md R270). Plain data throughout. -/

namespace Sys2Proof.Machine

/-- The PulseBuffer, the block's only memory and only address space: its entries, oldest first, entry `k` at index `k`
(10_state.md R20, 20_memory.md R60). A list is its one canonical form: equal contents are equal lists (log
entry 10). -/
abbrev Memory := List Nat

/-- The form every PulseBuffer has: at most `CAP` entries (41_pulse_buffer.md R130), each of `DUR_W` bits (R20). -/
abbrev Memory.wf (p : Params) (m : Memory) : Prop :=
  m.length ≤ p.cap ∧ ∀ d ∈ m, d < 2 ^ p.durW

/-- The indicator register's two bits (30_encoding.md R90). -/
inductive Indicator where
  /-- `0b00`: neither `set_alive` nor `set_failsafe` since reset. -/
  | none
  /-- `0b01` -/
  | alive
  /-- `0b10` -/
  | failsafe
  /-- `0b11`: reserved, never driven (R98). -/
  | reserved
deriving DecidableEq, Repr

/-- The Mealy outputs that a cycle drove (10_state.md R45). -/
structure CycleOutputs where
  /-- `dec_fire` -/
  decFire : Bool
  /-- `cap_pause` -/
  capPause : Bool
  /-- `dec_vec`: `N_CH` codes, channel 0 first; all zeros when `dec_fire = 0`. -/
  decVec : List Nat
  /-- `ind_alive_stb` -/
  indAliveStb : Bool
  /-- `ind_fs_stb` -/
  indFsStb : Bool
deriving DecidableEq, Repr

/-- The state record of 10_state.md R20 (`buf` to `ind`), with what it is built with (`params`, `policy`) and the
model's own fields (`outs`, `pending`, `cycle`). -/
@[ext]
structure State where
  /-- The elaboration parameters (00_scope.md R8, R11; log entry 13). No step writes them. -/
  params : Params
  /-- The policy wired to the block (43_control_policy.md R180). No step writes it. -/
  policy : Policy
  /-- `buf`: PulseBuffer contents, oldest first. -/
  buf : Memory
  /-- `ch[0..N_CH-1]`: the channel codes of the last decode. -/
  ch : List Nat
  /-- `ch_valid`: a decode has happened since reset. -/
  chValid : Bool
  /-- `cmd_steer` -/
  cmdSteer : Nat
  /-- `cmd_thr` -/
  cmdThr : Int
  /-- `wd`: watchdog elapsed-tick counter, `0 .. TIMEOUT+1`. -/
  wd : Nat
  /-- `ind`: indicator state. -/
  ind : Indicator
  /-- The model's own: the Mealy outputs of the cycle just run, kept so that a run shows them; no rule reads them
  (log entry 4). -/
  outs : CycleOutputs
  /-- The model's own: the environment's inputs of the coming cycles, the current cycle's first; past its end the
  inputs are free (40_cycle.md R116, log entry 2). -/
  pending : List Inputs
  /-- The model's own: the number of cycles run, which the free inputs are indexed by (log entry 2). -/
  cycle : Nat
deriving DecidableEq, Repr

/-- The model faults of 60_exceptions.md R245. Each is safe: it can only make a claim unprovable. A fault is sticky: the
run ends in it, and no reset clears it (log entry 5). -/
inductive Fault where
  /-- Raised by a push into a full buffer with no pop or clear in the cycle (41_pulse_buffer.md R133, R137). Safe. -/
  | bufferOverflow
  /-- Raised by a cycle whose condition word breaks 30_encoding.md R96, and by an operation asked to run in a state
  that can not select it and gives it no operand (log entry 6). Safe. -/
  | illegalCW
  /-- Raised by a cycle that starts in a state holding a value that 30_encoding.md R98 lists as never produced. Safe. -/
  | illegalState
deriving DecidableEq, Repr

/-- Why a step is refused. -/
inductive Refusal where
  /-- Raised by `exec` for an operation that has no meaning in this model. Safe. No arm raises it. -/
  | notModelled (mnemonic : String)
  /-- Raised by a step of a block whose parameters or policy 00_scope.md R10 or 43_control_policy.md R182 refuses:
  such a block does not elaborate and has no step (60_exceptions.md R245, `IllegalParam`). Safe. -/
  | illegalParam
deriving DecidableEq, Repr

/-- The Mealy outputs of a reset cycle (70_reset_and_hazards.md R270). -/
def CycleOutputs.quiet (p : Params) : CycleOutputs where
  decFire := false
  capPause := false
  decVec := List.replicate p.nCh 0
  indAliveStb := false
  indFsStb := false

/-- RESET_STATE for a block with these parameters and policy (70_reset_and_hazards.md R270), before an environment
that has placed nothing. -/
def State.resetWith (p : Params) (q : Policy) : State where
  params := p
  policy := q
  buf := []
  ch := List.replicate p.nCh 0
  chValid := false
  cmdSteer := p.neutralSteer
  cmdThr := p.neutralThr
  wd := 0
  ind := .none
  outs := .quiet p
  pending := []
  cycle := 0

/-- The machine right after reset: the default parameters (00_scope.md R8), a policy of which nothing is known, and
RESET_STATE (70_reset_and_hazards.md R270). -/
def State.reset : State := State.resetWith .default .external

end Sys2Proof.Machine
end

