-- ==== Sys2Proof/Machine/Operands.lean ====
section
/-! DEFINITION. Machine/Operands.lean: where the operations' operands come from: the input ports (10_state.md R40 to
R42), the buffer's read primitives (41_pulse_buffer.md R132, R136) and the decode datapath (42_frame_decoder.md R155,
R156). Nothing here changes a state. -/

namespace Sys2Proof.Machine

/-- `min(max(x, lo), hi)` (00_scope.md R12). -/
def clamp (x lo hi : Int) : Int := min (max x lo) hi

/-- The inputs of the current cycle: what the environment has placed, else free (40_cycle.md R116). -/
def State.input (s : State) : Inputs :=
  match s.pending with
  | i :: _ => i
  | [] => Config.freeInput s.cycle

/-- The `cap_dur` port of the current cycle: `DUR_W` wires (10_state.md R41, log entry 7). -/
def State.capDur (s : State) : Nat := s.input.capDur % 2 ^ s.params.durW

/-- `BufFront`: the oldest entry, `none` when the buffer is empty (41_pulse_buffer.md R132). -/
def State.bufFront (s : State) : Option Nat :=
  match s.buf with
  | [] => none
  | d :: _ => some d

/-- `BufRead(k)`: entry `k`, `none` where there is no such entry (41_pulse_buffer.md R136). -/
def State.bufRead (s : State) (k : Nat) : Option Nat := s.buf[k]?

/-- `sum = a + b`, exact in `DUR_W + 1` bits (30_encoding.md R82). -/
def pairSum (a b : Nat) : Nat := a + b

/-- `off = sum - BASELINE`, signed and exact (30_encoding.md R83). -/
def pairOffset (p : Params) (a b : Nat) : Int := (pairSum a b : Int) - (p.baseline : Int)

/-- `DecodeChannel(a, b)`: the offset clamped to `0 .. SCALE` (42_frame_decoder.md R156). -/
def decodeChannel (p : Params) (a b : Nat) : Nat :=
  (clamp (pairOffset p a b) 0 (p.scale : Int)).toNat

/-- Channel `i`'s code, from buffer entries `2+2*i` and `3+2*i` (20_memory.md R66, 42_frame_decoder.md R155). -/
def State.channelCode (s : State) (i : Nat) : Option Nat :=
  match s.bufRead (2 + 2 * i), s.bufRead (3 + 2 * i) with
  | some a, some b => some (decodeChannel s.params a b)
  | _, _ => none

/-- The codes of channels `0 .. n-1`, channel 0 first; `none` where the buffer lacks an entry. -/
def State.channelCodes (s : State) : Nat → Option (List Nat)
  | 0 => some []
  | n + 1 =>
    match s.channelCodes n, s.channelCode n with
    | some vec, some code => some (vec ++ [code])
    | _, _ => none

/-- The vector `vec[0..N_CH-1]` of a decode cycle, from the snapshot at the cycle's start (42_frame_decoder.md R154,
R155). -/
def State.decodeVector (s : State) : Option (List Nat) := s.channelCodes s.params.nCh

end Sys2Proof.Machine
end

