-- ==== Sys2Proof/Machine/ControlPolicy.lean ====
section
/-! DEFINITION. Machine/ControlPolicy.lean: the block's side of the policy interface (43_control_policy.md R180, R181)
and the reference instance (R182 to R186), on exact rationals. -/

namespace Sys2Proof.Machine

/-- The three modes of the reference instance (43_control_policy.md R182). -/
inductive ControlMode where
  | raw
  | steerAssist
  | unmapped
deriving DecidableEq, Repr

/-- Mode selection on `v_2`, with the exact decimal thresholds 0.33 and 0.66 (43_control_policy.md R182). -/
def referenceMode (v2 : Rat) : ControlMode :=
  if v2 < 33 / 100 then .raw
  else if v2 < 66 / 100 then .steerAssist
  else .unmapped

/-- `trunc(x * 1024)`: rounding toward zero (43_control_policy.md R186). -/
def toCode (x : Rat) : Int := (x * 1024).num.tdiv ((x * 1024).den : Int)

/-- `|x|` on rationals (00_scope.md R12). -/
def ratAbs (x : Rat) : Rat := if x < 0 then -x else x

/-- `steer_deg = v_1 * 180` (43_control_policy.md R183, R184). -/
def steerDegrees (v1 : Rat) : Rat := v1 * 180

/-- `(v_0 - 0.5) * 2` (43_control_policy.md R183, R184). -/
def rawThrottle (v0 : Rat) : Rat := (v0 - 1 / 2) * 2

/-- `1 - 0.7 * 2 * |v_1 - 0.5|` (43_control_policy.md R184). -/
def turnReductionFactor (v1 : Rat) : Rat := 1 - 7 / 10 * 2 * ratAbs (v1 - 1 / 2)

/-- POLICY_RAW (43_control_policy.md R183). -/
def policyRaw (v0 v1 : Rat) : PolicyResult :=
  .update (toCode (steerDegrees v1)).toNat (toCode (rawThrottle v0))

/-- POLICY_STEER_ASSIST (43_control_policy.md R184). -/
def policySteerAssist (v0 v1 : Rat) : PolicyResult :=
  .update (toCode (steerDegrees v1)).toNat (toCode (rawThrottle v0 * turnReductionFactor v1))

/-- POLICY_UNMAPPED (43_control_policy.md R185). -/
def policyUnmapped : PolicyResult := .hold

/-- The reference instance on the channel values `v_0`, `v_1`, `v_2` (43_control_policy.md R182 to R185). -/
def referenceOn (v0 v1 v2 : Rat) : PolicyResult :=
  match referenceMode v2 with
  | .raw => policyRaw v0 v1
  | .steerAssist => policySteerAssist v0 v1
  | .unmapped => policyUnmapped

/-- `v_k = vec[k] / SCALE` (43_control_policy.md R182). -/
def channelValue (p : Params) (vec : List Nat) (k : Nat) : Rat :=
  mkRat (vec.getD k 0 : Int) p.scale

/-- The reference instance on a channel vector (43_control_policy.md R182; log entry 11). -/
def referencePolicy (p : Params) (vec : List Nat) : PolicyResult :=
  referenceOn (channelValue p vec 0) (channelValue p vec 1) (channelValue p vec 2)

/-- What the policy wired to the block answers for a vector: a function of the vector alone (43_control_policy.md
R180). -/
def Policy.answer (p : Params) (q : Policy) (vec : List Nat) : PolicyResult :=
  match q with
  | .external => Config.externalPolicy vec
  | .reference => referencePolicy p vec
  | .table rows otherwise =>
    match rows.find? (fun r => decide (r.1 = vec)) with
    | some r => r.2
    | none => otherwise

/-- The `pol_steer` and `pol_thr` ports have `STEER_W` and `THR_W` wires (10_state.md R43): a code that fits them
passes as it is, and the block does not check its range (43_control_policy.md R181, log entry 7). -/
def policyPorts (p : Params) : PolicyResult → PolicyResult
  | .update steer thr => .update (steer % 2 ^ p.steerW) (thr.bmod (2 ^ p.thrW))
  | .hold => .hold

/-- The policy's answer in a cycle, for the cycle's `dec_vec` (43_control_policy.md R180; 40_cycle.md R111, phase 5);
`none` where the buffer holds no frame to decode. -/
def State.policyAnswer (s : State) : Option PolicyResult :=
  match s.decodeVector with
  | some vec => some (policyPorts s.params (Policy.answer s.params s.policy vec))
  | none => none

end Sys2Proof.Machine
end

