-- ==== Sys2Proof/Machine/Flags.lean ====
section
/-! DEFINITION. Machine/Flags.lean: the conditions a cycle depends on: the decoder's action and state (30_encoding.md
R93, 10_state.md R24), the failsafe condition (R25), the values that are never produced (30_encoding.md R98), and the
bits of the condition word (R95). -/

namespace Sys2Proof.Machine

/-- The decoder's action of a cycle (30_encoding.md R93). -/
inductive DecAction where
  | idle
  | trim
  | wait
  | decode
deriving DecidableEq, Repr

/-- `act(s)`: the first condition that holds; it reads the buffer alone (30_encoding.md R93). -/
def State.act (s : State) : DecAction :=
  match s.bufFront with
  | none => .idle
  | some d =>
    if d < s.params.syncThr then .trim
    else if s.buf.length < s.params.cap then .wait
    else .decode

/-- The decoder's state (10_state.md R24). -/
inductive DecState where
  | searching
  | synced
  | decoding
deriving DecidableEq, Repr

/-- `dec_state(s)` (10_state.md R24): not a register, a function of the buffer. -/
def State.decState (s : State) : DecState :=
  if s.buf.length = 0 then .searching
  else if s.buf.getD 0 0 < s.params.syncThr then .searching
  else if s.buf.length < s.params.cap then .synced
  else .decoding

/-- `failsafe(s) = (s.wd > TIMEOUT)` (10_state.md R25): not a register. -/
def State.failsafe (s : State) : Bool := decide (s.params.timeout < s.wd)

/-- The command register holds NEUTRAL (00_scope.md R14). -/
abbrev State.CommandNeutral (s : State) : Prop :=
  s.cmdSteer = s.params.neutralSteer ∧ s.cmdThr = s.params.neutralThr

/-- The state holds none of the values that are never produced (30_encoding.md R98; log entry 12). -/
abbrev State.LegalValues (s : State) : Prop :=
  s.ind ≠ .reserved ∧ (∀ c ∈ s.ch, c ≤ s.params.scale) ∧ s.wd ≤ s.params.timeout + 1 ∧ s.buf.length ≤ s.params.cap

/-- The count after a tick, if no decode intervenes: `min(wd + 1, TIMEOUT + 1)` (44_watchdog.md R203). -/
def saturatingTick (p : Params) (wd : Nat) : Nat := min (wd + 1) (p.timeout + 1)

/-- EXP: `min(wd + TK, TIMEOUT + 1) > TIMEOUT` (30_encoding.md R95). -/
def State.expires (s : State) : Bool :=
  decide (s.params.timeout < min (s.wd + s.input.usTick.toNat) (s.params.timeout + 1))

/-- PU: a decode action for whose vector the policy answers with an update (30_encoding.md R95). -/
def State.policyUpdates (s : State) : Bool :=
  match s.act, s.policyAnswer with
  | .decode, some (.update _ _) => true
  | _, _ => false

/-- The bits of the cycle's condition word, each a function of the state and the inputs (30_encoding.md R95). -/
def State.conditionBits (s : State) : CwBits where
  dec := decide (s.act = .decode)
  trm := decide (s.act = .trim)
  syn := decide (s.act = .wait)
  pv := s.input.capValid
  tk := s.input.usTick
  exp := s.expires
  rst := s.input.rst
  pu := s.policyUpdates

/-- The cycle's condition word (30_encoding.md R95). -/
def State.conditionWord (s : State) : ConditionWord := s.conditionBits.toWord

end Sys2Proof.Machine
end

