-- ==== Sys2Proof/Machine/Ops.lean ====
section
/-! DEFINITION. Machine/Ops.lean: the named writes that the operations are made of: the buffer's write primitives
(41_pulse_buffer.md R133 to R135), the register writes (10_state.md R22), the outputs that a cycle drives (R45), the
reset, and failsafe entry and exit, which is what the block has in the place of taking an exception and returning from
one (60_exceptions.md R247, R248). -/

namespace Sys2Proof.Machine

/-! ### The PulseBuffer -/

/-- `BufPush(d)`: append at the back (41_pulse_buffer.md R133). -/
def State.bufPush (s : State) (d : Nat) : State := { s with buf := s.buf ++ [d] }

/-- `BufPop()`: drop the oldest entry (41_pulse_buffer.md R134). -/
def State.bufPop (s : State) : State := { s with buf := s.buf.tail }

/-- `BufClear()` (41_pulse_buffer.md R135). -/
def State.bufClear (s : State) : State := { s with buf := [] }

/-! ### The registers -/

/-- Every channel code at once, and `ch_valid` (42_frame_decoder.md R158). -/
def State.setChannels (s : State) (vec : List Nat) : State := { s with ch := vec, chValid := true }

/-- The watchdog counter (44_watchdog.md R202 to R204). -/
def State.setWd (s : State) (n : Nat) : State := { s with wd := n }

/-- The command register (45_failsafe_override.md R220). -/
def State.setCommand (s : State) (steer : Nat) (thr : Int) : State :=
  { s with cmdSteer := steer, cmdThr := thr }

/-- The indicator register (45_failsafe_override.md R225 to R227). -/
def State.setInd (s : State) (i : Indicator) : State := { s with ind := i }

/-! ### The outputs of the cycle -/

/-- The decoder's Mealy outputs: `cap_pause` equals `dec_fire` (10_state.md R45). -/
def State.driveDecoder (s : State) (fire : Bool) (vec : List Nat) : State :=
  { s with outs := { s.outs with decFire := fire, capPause := fire, decVec := vec } }

/-- No decode in this cycle: `dec_fire = 0` and `dec_vec` all zeros (10_state.md R45). -/
def State.driveNoDecode (s : State) : State := s.driveDecoder false (List.replicate s.params.nCh 0)

/-- The indicator strobes (10_state.md R45). -/
def State.driveStrobes (s : State) (aliveStb fsStb : Bool) : State :=
  { s with outs := { s.outs with indAliveStb := aliveStb, indFsStb := fsStb } }

/-! ### Failsafe entry and exit -/

/-- FAILSAFE ENTRY, the block's only trap-like event, and its repetition in every further cycle of failsafe
(60_exceptions.md R247, 45_failsafe_override.md R223, R226): the command becomes NEUTRAL, the indicator FAILSAFE, and
the strobe is raised. Nothing is saved and control goes nowhere; the count that holds `TIMEOUT + 1` is the watchdog's
own write (44_watchdog.md R203). -/
def State.enterFailsafe (s : State) : State :=
  ((s.setCommand s.params.neutralSteer s.params.neutralThr).setInd .failsafe).driveStrobes false true

/-- The output unit's side of a decode cycle, FAILSAFE EXIT included (60_exceptions.md R248, 45_failsafe_override.md
R225): the indicator becomes ALIVE. Nothing is restored; the count is cleared by the watchdog's own write
(44_watchdog.md R202). -/
def State.signalAlive (s : State) : State := (s.setInd .alive).driveStrobes true false

/-! ### Reset and the passing of a cycle -/

/-- Every unit loads RESET_STATE (70_reset_and_hazards.md R270). What the block is built with and what its environment
will do are no registers of it, and stay. -/
def State.loadReset (s : State) : State :=
  { State.resetWith s.params s.policy with pending := s.pending, cycle := s.cycle }

/-- The clock edge has passed: the environment's next inputs are the current ones (00_scope.md R6). -/
def State.nextCycle (s : State) : State := { s with pending := s.pending.tail, cycle := s.cycle + 1 }

end Sys2Proof.Machine
end

