-- ==== Sys2Proof/Machine/Capture.lean ====
section
/-! DEFINITION. Machine/Capture.lean: the capture port's three operations (41_pulse_buffer.md R133, R138, R139). They
act on the buffer as the decoder's operation of the cycle leaves it (20_memory.md R71). -/

namespace Sys2Proof.Machine

/-- CAP_NONE (41_pulse_buffer.md R138): no push; `cap_dur` is not read. -/
def execCapNone (s : State) : Host.Outcome State Fault Refusal := .next s

/-- CAP_PUSH (41_pulse_buffer.md R133): `cap_dur` is appended; a full buffer is a model fault (R137). -/
def execCapPush (s : State) : Host.Outcome State Fault Refusal :=
  if s.buf.length < s.params.cap then .next (s.bufPush s.capDur) else .fault .bufferOverflow

/-- CAP_DROP (41_pulse_buffer.md R139): the offered duration is lost. -/
def execCapDrop (s : State) : Host.Outcome State Fault Refusal := .next s

end Sys2Proof.Machine
end

