-- ==== Sys2Proof/Machine/Decoder.lean ====
section
/-! DEFINITION. Machine/Decoder.lean: the decoder's four operations (42_frame_decoder.md R151 to R154). -/

namespace Sys2Proof.Machine

/-- DEC_IDLE (42_frame_decoder.md R151): the buffer stays, no decode. -/
def execDecIdle (s : State) : Host.Outcome State Fault Refusal := .next s.driveNoDecode

/-- DEC_TRIM (42_frame_decoder.md R152): the front entry is popped, no decode. It needs a front entry
(41_pulse_buffer.md R134). -/
def execDecTrim (s : State) : Host.Outcome State Fault Refusal :=
  match s.bufFront with
  | some _ => .next s.bufPop.driveNoDecode
  | none => .fault .illegalCW

/-- DEC_WAIT (42_frame_decoder.md R153): the buffer stays, no decode. -/
def execDecWait (s : State) : Host.Outcome State Fault Refusal := .next s.driveNoDecode

/-- DEC_DECODE (42_frame_decoder.md R154, R155, R158): the vector of the snapshot goes to the channel register and to
`dec_vec`, and the buffer is cleared. It needs the snapshot's entries (41_pulse_buffer.md R136). -/
def execDecDecode (s : State) : Host.Outcome State Fault Refusal :=
  match s.decodeVector with
  | some vec => .next ((s.setChannels vec).bufClear.driveDecoder true vec)
  | none => .fault .illegalCW

end Sys2Proof.Machine
end

