-- ==== Sys2Proof/Machine/Output.lean ====
section
/-! DEFINITION. Machine/Output.lean: the output unit's four operations: the command register, the indicator and its
strobes (45_failsafe_override.md R221 to R227). -/

namespace Sys2Proof.Machine

/-- OUT_UPDATE (45_failsafe_override.md R221, R225): the policy's command for the cycle's vector, as given; ALIVE. It
needs an update from the policy. -/
def execOutUpdate (s : State) : Host.Outcome State Fault Refusal :=
  match s.policyAnswer with
  | some (.update steer thr) => .next (s.setCommand steer thr).signalAlive
  | _ => .fault .illegalCW

/-- OUT_POLICY_HOLD (45_failsafe_override.md R222, R225): the command stays; ALIVE. -/
def execOutPolicyHold (s : State) : Host.Outcome State Fault Refusal := .next s.signalAlive

/-- OUT_OVERRIDE (45_failsafe_override.md R223, R226): NEUTRAL and FAILSAFE. -/
def execOutOverride (s : State) : Host.Outcome State Fault Refusal := .next s.enterFailsafe

/-- OUT_HOLD (45_failsafe_override.md R224, R227): the command and the indicator stay. -/
def execOutHold (s : State) : Host.Outcome State Fault Refusal := .next (s.driveStrobes false false)

end Sys2Proof.Machine
end

