-- ==== Sys2Proof/Machine/Reset.lean ====
section
/-! DEFINITION. Machine/Reset.lean: the operation of all units, RESET. -/

namespace Sys2Proof.Machine

/-- RESET (70_reset_and_hazards.md R270). -/
def execReset (s : State) : Host.Outcome State Fault Refusal := .next s.loadReset

end Sys2Proof.Machine
end

