-- ==== Sys2Proof/Machine/Watchdog.lean ====
section
/-! DEFINITION. Machine/Watchdog.lean: the watchdog's three operations (44_watchdog.md R202 to R204). -/

namespace Sys2Proof.Machine

/-- WD_CLEAR (44_watchdog.md R202). -/
def execWdClear (s : State) : Host.Outcome State Fault Refusal := .next (s.setWd 0)

/-- WD_TICK (44_watchdog.md R203): one more, up to `TIMEOUT + 1`. -/
def execWdTick (s : State) : Host.Outcome State Fault Refusal := .next (s.setWd (saturatingTick s.params s.wd))

/-- WD_HOLD (44_watchdog.md R204). -/
def execWdHold (s : State) : Host.Outcome State Fault Refusal := .next (s.setWd s.wd)

end Sys2Proof.Machine
end

