-- ==== Sys2Proof/Machine/Dispatch.lean ====
section
/-! DEFINITION. Machine/Dispatch.lean: one arm per operation of the operation map (30_encoding.md R97). -/

namespace Sys2Proof.Machine

def exec (i : Instr) (s : State) : Host.Outcome State Fault Refusal :=
  match i with
  | .reset => Sys2Proof.Machine.execReset s
  | .decIdle => Sys2Proof.Machine.execDecIdle s
  | .decTrim => Sys2Proof.Machine.execDecTrim s
  | .decWait => Sys2Proof.Machine.execDecWait s
  | .decDecode => Sys2Proof.Machine.execDecDecode s
  | .capNone => Sys2Proof.Machine.execCapNone s
  | .capPush => Sys2Proof.Machine.execCapPush s
  | .capDrop => Sys2Proof.Machine.execCapDrop s
  | .wdClear => Sys2Proof.Machine.execWdClear s
  | .wdTick => Sys2Proof.Machine.execWdTick s
  | .wdHold => Sys2Proof.Machine.execWdHold s
  | .outUpdate => Sys2Proof.Machine.execOutUpdate s
  | .outPolicyHold => Sys2Proof.Machine.execOutPolicyHold s
  | .outOverride => Sys2Proof.Machine.execOutOverride s
  | .outHold => Sys2Proof.Machine.execOutHold s

end Sys2Proof.Machine
end

