-- ==== Sys2Proof/Machine/Cycle.lean ====
section
/-! DEFINITION. Machine/Cycle.lean: how the operations that a condition word selects make one cycle (40_cycle.md R111),
and how a state and its inputs are set so that a given condition word arises. -/

namespace Sys2Proof.Machine

/-- One part of a cycle after another; a fault or a refusal ends the cycle. -/
def andThen (o : Host.Outcome State Fault Refusal) (f : State → Host.Outcome State Fault Refusal) :
    Host.Outcome State Fault Refusal :=
  match o with
  | .next s => f s
  | .fault r => .fault r
  | .refused r => .refused r

/-- The operations of one cycle. The output unit, the watchdog and the decoder each read the state at the cycle's
start, since none reads what another writes; the capture port acts on the buffer that the decoder leaves, pop before
push (20_memory.md R71; log entry 1). -/
def runBundle (b : Bundle) (s : State) : Host.Outcome State Fault Refusal :=
  match b with
  | .reset => exec .reset s
  | .ops dec cap wd out =>
    andThen (andThen (andThen (exec out s) (exec wd)) (exec dec)) (exec cap)

/-- The cycle of a legal block in a legal state: its condition word is decoded, the operations it selects are run, and
the edge passes. A word that breaks 30_encoding.md R96 is a model fault. -/
def runCycle (s : State) : Host.Outcome State Fault Refusal :=
  match decode s.conditionWord with
  | .ok b => andThen (runBundle b s) (fun t => .next t.nextCycle)
  | .error _ => .fault .illegalCW

/-- What a cycle needs before it runs: a block that elaborates (00_scope.md R10, 43_control_policy.md R182) and a state
without a value that is never produced (30_encoding.md R98); reset does not get a state past the latter
(60_exceptions.md R245). -/
def cycle (s : State) : Host.Outcome State Fault Refusal :=
  if s.params.Legal ∧ s.policy.Allowed s.params then
    if s.LegalValues then runCycle s else .fault .illegalState
  else .refused .illegalParam

/-- The buffer under which the decoder's action is what the bits ask for: empty for IDLE; else a front of 0 for TRIM,
of the sync threshold for WAIT and DECODE, and `CAP` entries for DECODE (30_encoding.md R93, R95). -/
def bufferFor (p : Params) (c : CwBits) : Memory :=
  if c.dec then p.syncThr :: List.replicate (p.cap - 1) 0
  else if c.trm then [0]
  else if c.syn then [p.syncThr]
  else []

/-- The inputs that the bits ask for (30_encoding.md R95). -/
def inputsFor (c : CwBits) : Inputs :=
  { rst := c.rst, usTick := c.tk, capValid := c.pv, capDur := 0 }

/-- A state and inputs under which the cycle's condition word has the bits `c`, for legal bits: the buffer selects the
decoder's action, the count selects EXP, in a decode cycle the policy answers as PU asks, and the current cycle's
inputs are placed before those already pending (30_encoding.md R95). For a reset word only the inputs are placed. -/
def State.withCondition (s : State) (c : CwBits) : State :=
  if c.rst then { s with pending := inputsFor c :: s.pending }
  else
    { s with
      buf := bufferFor s.params c
      wd := if c.exp then s.params.timeout + 1 else 0
      policy := if c.dec then
          .table [] (if c.pu then .update s.params.neutralSteer s.params.neutralThr else .hold)
        else s.policy
      pending := inputsFor c :: s.pending }

end Sys2Proof.Machine
end

