-- ==== Sys2Proof/Machine/Step.lean ====
section
/-! DEFINITION. Machine/Step.lean: the step is one clock cycle (00_scope.md R6, 40_cycle.md R111); and the state in
which a given condition word is the next that the block decodes. -/

namespace Sys2Proof.Machine

/-- One clock cycle of the block with its environment (40_cycle.md R110, R111). -/
def step (s : State) : Host.Outcome State Fault Refusal := cycle s

/-- `s` set so that the next cycle decodes the condition word `w`. The block fetches no instruction (40_cycle.md R110):
a condition word arises from the state and the inputs, so this sets the ones it arises from (log entry 9). The table's
words are 8 bits wide; for another width nothing is set. -/
def State.withFetchWord (s : State) (nbits w : Nat) : State :=
  if nbits = 8 then s.withCondition (CwBits.ofWord (BitVec.ofNat 8 w)) else s

end Sys2Proof.Machine
end

