-- ==== Sys2Proof/Machine/Phases.lean ====
section
/-! DEFINITION. Machine/Phases.lean: the step as 40_cycle.md R111 writes it, phase by phase, without the condition word
and without the per-unit operations. The machine's step is Machine/Step.lean's; this text is what a statement compares
it with. -/

namespace Sys2Proof.Machine

/-- The vector of phase 2: `vec[i] = clamp(buf[2+2*i] + buf[3+2*i] - BASELINE, 0, SCALE)` (40_cycle.md R111). -/
def phaseVector (s : State) : List Nat :=
  (List.range s.params.nCh).map (fun i =>
    let sum : Int := (s.buf.getD (2 + 2 * i) 0 : Int) + (s.buf.getD (3 + 2 * i) 0 : Int)
    (min (max (sum - (s.params.baseline : Int)) 0) (s.params.scale : Int)).toNat)

/-- The policy's result in phase 5, as its ports carry it. -/
def phasePolicy (s : State) : PolicyResult :=
  policyPorts s.params (Policy.answer s.params s.policy (phaseVector s))

/-- The count of phase 6. -/
def phaseWd (s : State) : Nat :=
  match s.act with
  | .decode => 0
  | _ => if s.input.usTick then min (s.wd + 1) (s.params.timeout + 1) else s.wd

/-- The buffer of phase 3 before the push. -/
def phaseBuffer (s : State) : Memory :=
  match s.act with
  | .trim => s.buf.tail
  | .decode => []
  | _ => s.buf

/-- The command of phase 5. -/
def phaseCommand (s : State) : Nat × Int :=
  match s.act, phasePolicy s with
  | .decode, .update steer thr => (steer, thr)
  | _, _ => (s.cmdSteer, s.cmdThr)

/-- The whole of 40_cycle.md R111 for a non-reset cycle. -/
def phaseNext (s : State) : State :=
  { s with
    buf := if s.input.capValid ∧ s.act ≠ .decode then phaseBuffer s ++ [s.capDur] else phaseBuffer s
    ch := if s.act = .decode then phaseVector s else s.ch
    chValid := if s.act = .decode then true else s.chValid
    cmdSteer := if s.params.timeout < phaseWd s then s.params.neutralSteer else (phaseCommand s).1
    cmdThr := if s.params.timeout < phaseWd s then s.params.neutralThr else (phaseCommand s).2
    wd := phaseWd s
    ind := if s.params.timeout < phaseWd s then .failsafe else if s.act = .decode then .alive else s.ind
    outs := {
      decFire := decide (s.act = .decode)
      capPause := decide (s.act = .decode)
      decVec := if s.act = .decode then phaseVector s else List.replicate s.params.nCh 0
      indAliveStb := decide (s.act = .decode)
      indFsStb := decide (s.params.timeout < phaseWd s) }
    pending := s.pending.tail
    cycle := s.cycle + 1 }

/-- The step of 40_cycle.md R111: reset first, then phases 1 to 7; a push into a buffer that is still full is a model
fault. -/
def phaseStep (s : State) : Host.Outcome State Fault Refusal :=
  if s.input.rst then
    .next { State.resetWith s.params s.policy with pending := s.pending.tail, cycle := s.cycle + 1 }
  else if s.input.capValid ∧ s.act ≠ .decode ∧ (phaseBuffer s).length = s.params.cap then .fault .bufferOverflow
  else .next (phaseNext s)

end Sys2Proof.Machine
end

