-- ==== Sys2Proof/Machine/Ports.lean ====
section
/-! DEFINITION. Machine/Ports.lean: the block's output ports as bit vectors of their widths (10_state.md R44, R45;
30_encoding.md R86 to R91), each a function of the state, the Mealy ones of the state and the current inputs. No
operation reads them. -/

namespace Sys2Proof.Machine

/-- The bit length of a number: the least width that holds it. -/
def bitLength (n : Nat) : Nat := if n = 0 then 0 else n.log2 + 1

/-- `CODE_W`: bit length of SCALE (00_scope.md R8). -/
def codeW (p : Params) : Nat := bitLength p.scale

/-- `WD_W`: bit length of TIMEOUT+1 (00_scope.md R8). -/
def wdW (p : Params) : Nat := bitLength (p.timeout + 1)

/-- `LEN_W`: bit length of CAP (00_scope.md R8). -/
def lenW (p : Params) : Nat := bitLength p.cap

/-- A bus of codes of `w` bits, channel 0 in the lowest (30_encoding.md R87). -/
def packBus (w : Nat) : List Nat → Nat
  | [] => 0
  | c :: cs => c % 2 ^ w + 2 ^ w * packBus w cs

/-- The indicator code (30_encoding.md R90). -/
def Indicator.code : Indicator → BitVec 2
  | .none => 0b00
  | .alive => 0b01
  | .failsafe => 0b10
  | .reserved => 0b11

/-- The decoder-state code (30_encoding.md R91). -/
def DecState.code : DecState → BitVec 2
  | .searching => 0b00
  | .synced => 0b01
  | .decoding => 0b10

/-- `ch_code` (10_state.md R44). -/
def State.chCodePort (s : State) : BitVec (s.params.nCh * codeW s.params) :=
  BitVec.ofNat _ (packBus (codeW s.params) s.ch)

/-- `ch_valid` -/
def State.chValidPort (s : State) : BitVec 1 := BitVec.ofBool s.chValid

/-- `cmd_steer` -/
def State.cmdSteerPort (s : State) : BitVec s.params.steerW := BitVec.ofNat _ s.cmdSteer

/-- `cmd_thr`, two's complement (30_encoding.md R89). -/
def State.cmdThrPort (s : State) : BitVec s.params.thrW := BitVec.ofInt _ s.cmdThr

/-- `ind` -/
def State.indPort (s : State) : BitVec 2 := s.ind.code

/-- `failsafe` -/
def State.failsafePort (s : State) : BitVec 1 := BitVec.ofBool s.failsafe

/-- `dec_state` -/
def State.decStatePort (s : State) : BitVec 2 := s.decState.code

/-- `buf_len` -/
def State.bufLenPort (s : State) : BitVec (lenW s.params) := BitVec.ofNat _ s.buf.length

/-- The Mealy outputs of the current cycle, from the state at its start and its inputs alone (10_state.md R45, R270):
`dec_fire` where the action is DECODE and `rst = 0`; `ind_fs_stb` where the override applies. -/
def State.mealyOutputs (s : State) : CycleOutputs where
  decFire := decide (s.act = .decode) && !s.input.rst
  capPause := decide (s.act = .decode) && !s.input.rst
  decVec :=
    match decide (s.act = .decode) && !s.input.rst, s.decodeVector with
    | true, some vec => vec
    | _, _ => List.replicate s.params.nCh 0
  indAliveStb := decide (s.act = .decode) && !s.input.rst
  indFsStb := !decide (s.act = .decode) && !s.input.rst && s.expires

/-- The `dec_vec` bus of the cycle just run (10_state.md R45). -/
def State.decVecPort (s : State) : BitVec (s.params.nCh * codeW s.params) :=
  BitVec.ofNat _ (packBus (codeW s.params) s.outs.decVec)

end Sys2Proof.Machine
end

