-- ==== Sys2Proof/Machine/Stimuli.lean ====
section
/-! DEFINITION. Machine/Stimuli.lean: placing a stimulus as the inputs of the coming cycles (30_encoding.md R101,
R102). -/

namespace Sys2Proof.Machine

/-- `s` with these inputs placed for its coming cycles, the current one first. -/
def State.offer (s : State) (ins : List Inputs) : State := { s with pending := ins }

/-- `s` with the cycles of a list of stimuli placed as its coming inputs; `none` where a stimulus is not well-formed. -/
def State.offerStimuli (s : State) (xs : List Stimulus) : Option State :=
  match stimulusInputs s.params xs with
  | some ins => some (s.offer ins)
  | none => none

/-- `s` with the cycles that a list of input words stands for placed as its coming inputs; `none` where a word is too
wide (30_encoding.md R100). -/
def State.offerWords (s : State) (ws : List Nat) : Option State :=
  match ws.mapM (decodeInput s.params.durW) with
  | some ins => some (s.offer ins)
  | none => none

end Sys2Proof.Machine
end

