-- ==== Sys2Proof/Safety.lean ====
section
/-! DEFINITION. Safety.lean: what counts as a block that runs, a state with the invariants of 10_state.md R27, and a
state whose fields fit their widths (R20); and runs of several cycles, in the terms that statements use. -/

namespace Sys2Proof.Machine

/-- A block that elaborates (00_scope.md R10, 43_control_policy.md R182). -/
abbrev State.Elaborated (s : State) : Prop := s.params.Legal ∧ s.policy.Allowed s.params

/-- A block that elaborates, in a state without a value that is never produced (30_encoding.md R98): what a cycle needs
to run. -/
abbrev State.Ready (s : State) : Prop := s.Elaborated ∧ s.LegalValues

/-- The invariants (I1) to (I7) of 10_state.md R27. -/
structure State.Inv (s : State) : Prop where
  bufLen : s.buf.length ≤ s.params.cap
  front : 2 ≤ s.buf.length → s.params.syncThr ≤ s.buf.getD 0 0
  wdRange : s.wd ≤ s.params.timeout + 1
  indFailsafe : s.ind = .failsafe ↔ s.params.timeout < s.wd
  neutral : s.params.timeout < s.wd → s.CommandNeutral
  chRange : ∀ c ∈ s.ch, c ≤ s.params.scale
  indNone : s.ind = .none → s.chValid = false

/-- Every field has the width and the shape that 10_state.md R20 gives it. -/
structure State.Typed (s : State) : Prop where
  buf : Memory.wf s.params s.buf
  chLen : s.ch.length = s.params.nCh
  chWidth : ∀ c ∈ s.ch, c < 2 ^ codeW s.params
  steer : s.cmdSteer < 2 ^ s.params.steerW
  thrLow : -(2 ^ (s.params.thrW - 1) : Int) ≤ s.cmdThr
  thrHigh : s.cmdThr < (2 ^ (s.params.thrW - 1) : Int)
  wd : s.wd < 2 ^ wdW s.params
  ind : s.ind ≠ .reserved
  decVecLen : s.outs.decVec.length = s.params.nCh

/-- The state after `k` cycles, `none` where a cycle ends in a fault or a refusal. -/
def State.after : Nat → State → Option State
  | 0, s => some s
  | k + 1, s =>
    match step s with
    | .next t => t.after k
    | .fault _ => none
    | .refused _ => none

/-- The ticks among the next `k` cycles (10_state.md R42). -/
def State.ticksOver : Nat → State → Nat
  | 0, _ => 0
  | k + 1, s =>
    s.input.usTick.toNat +
      match step s with
      | .next t => t.ticksOver k
      | .fault _ => 0
      | .refused _ => 0

/-- No decode cycle and no reset cycle among the next `k` cycles. -/
def State.quietFor : Nat → State → Prop
  | 0, _ => True
  | k + 1, s => s.act ≠ .decode ∧ s.input.rst = false ∧ ∀ t, step s = .next t → t.quietFor k

end Sys2Proof.Machine
end

