-- ==== Sys2Proof/Certificates/Slice0/Obligations.lean ====
section
/-! DEFINITION. Certificates/Slice0/Obligations.lean: the statements for the provers. Each says what spec/ says of an
operation, a cycle or a run; the rule it follows stands in its docstring. `State.Ready` (Safety.lean) is all that a
cycle needs: legal parameters, an allowed policy, and no value that is never produced. -/

open Sys2Proof Sys2Proof.Machine

/-! ### Reset and the invariants -/

/-- R47: what the registers hold right after reset, for every parameter set and policy, and what the outputs then show.
The last clauses, that State.reset is that state for the default parameters of R8 (steering 92160, throttle 0, eight
channels), are the model's choice (log entry 13): R11 makes every parameter an argument. -/
def Obligations.ResetStateValues : Prop :=
  (∀ (p : Params) (q : Policy),
    (State.resetWith p q).buf = [] ∧
    (∀ i, i < p.nCh → (State.resetWith p q).ch[i]? = some 0) ∧
    (State.resetWith p q).chValid = false ∧
    (State.resetWith p q).CommandNeutral ∧
    (State.resetWith p q).wd = 0 ∧
    (State.resetWith p q).ind = .none ∧
    (State.resetWith p q).failsafe = false ∧
    (State.resetWith p q).decState = .searching ∧
    (State.resetWith p q).bufLenPort = 0) ∧
  (∃ q, State.reset = State.resetWith Params.default q) ∧
  State.reset.cmdSteer = 92160 ∧ State.reset.cmdThr = 0 ∧ State.reset.ch.length = 8

/-- R270, RESET: every unit loads RESET_STATE and the cycle's Mealy outputs are 0. What the block is built with and the
environment's coming inputs are no registers, and stay. -/
def Obligations.ResetOperation : Prop :=
  ∀ s : State,
    exec .reset s = .next {
      params := s.params, policy := s.policy,
      buf := [], ch := List.replicate s.params.nCh 0, chValid := false,
      cmdSteer := s.params.neutralSteer, cmdThr := s.params.neutralThr, wd := 0, ind := .none,
      outs := { decFire := false, capPause := false, decVec := List.replicate s.params.nCh 0,
                indAliveStb := false, indFsStb := false },
      pending := s.pending, cycle := s.cycle }

/-- R270, V-RST-1: a cycle with rst = 1, from every state in which a cycle can run, gives RESET_STATE, whatever else the
cycle's inputs and the state are, and its Mealy outputs are all 0. The last clause is the model's choice (log entry 5): a
state that holds a never-produced value is the fault IllegalState with rst = 1 too, the check coming before reset. -/
def Obligations.ResetCycleOverridesEverything : Prop :=
  ∀ s : State, s.Elaborated → s.input.rst = true →
    (s.LegalValues →
      step s = .next {
        params := s.params, policy := s.policy,
        buf := [], ch := List.replicate s.params.nCh 0, chValid := false,
        cmdSteer := s.params.neutralSteer, cmdThr := s.params.neutralThr, wd := 0, ind := .none,
        outs := { decFire := false, capPause := false, decVec := List.replicate s.params.nCh 0,
                  indAliveStb := false, indFsStb := false },
        pending := s.pending.tail, cycle := s.cycle + 1 }) ∧
    s.mealyOutputs = { decFire := false, capPause := false, decVec := List.replicate s.params.nCh 0,
                       indAliveStb := false, indFsStb := false } ∧
    (¬ s.LegalValues → step s = .fault .illegalState)

/-- R27, R20: (I1) to (I7) hold at reset, for every legal parameter set and every policy that goes with it, and the reset
state is one from which a cycle runs and whose fields fit their widths; so they hold at State.reset, the block of the
default parameters (log entry 13). -/
def Obligations.InvariantsHoldAtReset : Prop :=
  (∀ (p : Params) (q : Policy), p.Legal → q.Allowed p →
    (State.resetWith p q).Inv ∧ (State.resetWith p q).Ready ∧ (State.resetWith p q).Typed) ∧
  State.reset.Inv ∧ State.reset.Ready ∧ State.reset.Typed

/-- R27: each of (I1) to (I7) is preserved by the step, from every state that meets them, on any run or none. -/
def Obligations.StepKeepsInvariants : Prop :=
  ∀ s t : State, s.Inv → step s = .next t → t.Inv

/-- R20: the step keeps every field at its width and shape; the memory's form (at most CAP entries of DUR_W bits) is one
of them. What enters through a port has the port's width (log entry 7). -/
def Obligations.StepKeepsFieldWidths : Prop :=
  ∀ s t : State, s.Typed → step s = .next t → t.Typed

/-- R27, R98, R113, R240: the step is defined on every state that meets (I1), (I3) and (I6) and holds no reserved
indicator code, under every input and every policy; its next state meets them again and belongs to the same block. So
no run from such a state ever stops. -/
def Obligations.CycleNeverStops : Prop :=
  ∀ s : State, s.Ready →
    ∃ t, step s = .next t ∧ t.Ready ∧ t.params = s.params ∧ t.policy = s.policy

/-- R245, R98: a state that holds a value that is never produced is the model fault IllegalState, under every input. That
it is so under rst = 1 too is the model's choice (log entry 5): the check comes before the reset input, since R245 says that
reset does not clear a fault. -/
def Obligations.IllegalStateFaultsUnderEveryInput : Prop :=
  ∀ (s : State) (i : Inputs), s.Elaborated → ¬ s.LegalValues →
    step { s with pending := i :: s.pending } = .fault .illegalState

/-- R10, R182, R245: a parameter set outside the legal ranges, or the reference policy with fewer than three channels,
is refused: no step at all. The ranges of the two NEUTRAL codes, 0 to 184320 and -1024 to 1024, are the model's inference
(log entry 8): R8 says only "a legal steering code" and "a legal throttle code". -/
def Obligations.IllegalParametersAreRefused : Prop :=
  ∀ s : State, ¬ s.Elaborated → step s = .refused .illegalParam

/-! ### Encodings -/

/-- R97: the operation map, pattern by pattern. With RST = 1 every unit performs RESET. In every legal word with RST = 0
each unit performs the operation whose pattern the word has, and matches exactly one of its rows. -/
def Obligations.OperationMap : Prop :=
  ∀ w : ConditionWord,
    (w.getLsbD 6 = true → decode w = .ok .reset) ∧
    (legalWord w = true → w.getLsbD 6 = false →
      (∃ d c t o, decode w = .ok (.ops d c t o) ∧
        (d = .decIdle ↔ w &&& 0b01000111 = 0b00000000) ∧
        (d = .decTrim ↔ w &&& 0b01000111 = 0b00000010) ∧
        (d = .decWait ↔ w &&& 0b01000111 = 0b00000100) ∧
        (d = .decDecode ↔ w &&& 0b01000111 = 0b00000001) ∧
        (c = .capNone ↔ w &&& 0b01001000 = 0b00000000) ∧
        (c = .capPush ↔ w &&& 0b01001001 = 0b00001000) ∧
        (c = .capDrop ↔ w &&& 0b01001001 = 0b00001001) ∧
        (t = .wdClear ↔ w &&& 0b01000001 = 0b00000001) ∧
        (t = .wdTick ↔ w &&& 0b01010001 = 0b00010000) ∧
        (t = .wdHold ↔ w &&& 0b01010001 = 0b00000000) ∧
        (o = .outUpdate ↔ w &&& 0b11000001 = 0b10000001) ∧
        (o = .outPolicyHold ↔ w &&& 0b11000001 = 0b00000001) ∧
        (o = .outOverride ↔ w &&& 0b01100001 = 0b00100000) ∧
        (o = .outHold ↔ w &&& 0b01100001 = 0b00000000)) ∧
      ∀ u ∈ [OpUnit.decoder, OpUnit.capture, OpUnit.watchdog, OpUnit.output],
        (opTable.filter (fun r => decide (r.op.opUnit = u) && r.selects w)).length = 1)

/-- R96: at most one of DEC, TRM and SYN is 1 and PU = 1 only if DEC = 1, in the condition word of every state under
every input and policy, so that no cycle raises Fault(IllegalCW); and a word of a non-reset cycle that breaks either
constraint is rejected by the decoder. -/
def Obligations.ConditionWordIsAlwaysLegal : Prop :=
  (∀ s : State,
    (s.conditionWord.getLsbD 0).toNat + (s.conditionWord.getLsbD 1).toNat + (s.conditionWord.getLsbD 2).toNat ≤ 1 ∧
    (s.conditionWord.getLsbD 7 = true → s.conditionWord.getLsbD 0 = true) ∧
    step s ≠ .fault .illegalCW) ∧
  (∀ w : ConditionWord, w.getLsbD 6 = false →
    ((∃ e, decode w = .error e) ↔
      1 < (w.getLsbD 0).toNat + (w.getLsbD 1).toNat + (w.getLsbD 2).toNat ∨
      (w.getLsbD 7 = true ∧ w.getLsbD 0 = false)))

/-- Decode and encode agree, in three ways. (1) A condition word written for an operation, with any bits in the places
its pattern leaves free, is decoded by its unit to it, if R96 allows the word. (2) The word of a well-formed bundle is
decoded to the bundle. (3) What a word is decoded to is a well-formed bundle, each operation of which has its pattern
in the word. -/
def Obligations.DecodeEncodeAgree : Prop :=
  (∀ (i : Instr) (fill : ConditionWord), legalWord (encode i fill) = true →
    decodeUnit i.opUnit (encode i fill) = some i) ∧
  (∀ b : Bundle, b.wellFormed = true → decode (encodeBundle b) = .ok b) ∧
  (∀ (w : ConditionWord) (b : Bundle), decode w = .ok b →
    b.wellFormed = true ∧ ∀ i ∈ b.instrs, i.row.selects w = true)

/-- 95_test_vectors.md 2.7 (V-CW-1 to V-CW-7) and R96: what these condition words select. -/
def Obligations.ConditionWordVectors : Prop :=
  decode 0x00 = .ok (.ops .decIdle .capNone .wdHold .outHold) ∧
  decode 0x0A = .ok (.ops .decTrim .capPush .wdHold .outHold) ∧
  decode 0x34 = .ok (.ops .decWait .capNone .wdTick .outOverride) ∧
  decode 0x99 = .ok (.ops .decDecode .capDrop .wdClear .outUpdate) ∧
  decode 0x31 = .ok (.ops .decDecode .capNone .wdClear .outPolicyHold) ∧
  decode 0x20 = .ok (.ops .decIdle .capNone .wdHold .outOverride) ∧
  decode 0x48 = .ok .reset ∧
  decode 0x03 = .error .severalDecoderActions ∧
  decode 0x80 = .error .updateWithoutDecode

/-- R95, R97 with the selecting conditions of R151 to R154, R133, R138, R139, R202 to R204, R221 to R224: the condition
word of every state is legal (R96), and in a cycle with rst = 0 it selects for each unit the operation whose rule's
condition holds. -/
def Obligations.CycleSelectsByTheRulesConditions : Prop :=
  ∀ s : State,
    legalWord s.conditionWord = true ∧
    (s.input.rst = true → decode s.conditionWord = .ok .reset) ∧
    (s.input.rst = false → ∃ d c w o, decode s.conditionWord = .ok (.ops d c w o) ∧
      (d = .decIdle ↔ s.buf.length = 0) ∧
      (d = .decTrim ↔ 1 ≤ s.buf.length ∧ s.buf.getD 0 0 < s.params.syncThr) ∧
      (d = .decWait ↔ 1 ≤ s.buf.length ∧ s.params.syncThr ≤ s.buf.getD 0 0 ∧ s.buf.length < s.params.cap) ∧
      (d = .decDecode ↔ s.params.syncThr ≤ s.buf.getD 0 0 ∧ 1 ≤ s.buf.length ∧ s.params.cap ≤ s.buf.length) ∧
      (c = .capNone ↔ s.input.capValid = false) ∧
      (c = .capPush ↔ s.input.capValid = true ∧ d ≠ .decDecode) ∧
      (c = .capDrop ↔ s.input.capValid = true ∧ d = .decDecode) ∧
      (w = .wdClear ↔ d = .decDecode) ∧
      (w = .wdTick ↔ d ≠ .decDecode ∧ s.input.usTick = true) ∧
      (w = .wdHold ↔ d ≠ .decDecode ∧ s.input.usTick = false) ∧
      (o = .outUpdate ↔ d = .decDecode ∧ ∃ steer thr, s.policyAnswer = some (.update steer thr)) ∧
      (o = .outPolicyHold ↔ d = .decDecode ∧ s.policyAnswer = some .hold) ∧
      (o = .outOverride ↔ d ≠ .decDecode ∧
        s.params.timeout < min (s.wd + s.input.usTick.toNat) (s.params.timeout + 1)) ∧
      (o = .outHold ↔ d ≠ .decDecode ∧
        min (s.wd + s.input.usTick.toNat) (s.params.timeout + 1) ≤ s.params.timeout))

/-- R100: the input word of a cycle, read back, gives the cycle's inputs, with cap_dur in its DUR_W bits and 0 where
cap_valid is 0; and every number of DUR_W + 3 bits is the word of some inputs (R98). -/
def Obligations.InputWordRoundTrip : Prop :=
  (∀ (durW : Nat) (i : Inputs),
    decodeInput durW (encodeInput durW i) =
      some { i with capDur := if i.capValid then i.capDur % 2 ^ durW else 0 }) ∧
  (∀ durW w : Nat, w < 2 ^ (durW + 3) ↔ ∃ i, decodeInput durW w = some i)

/-- R100, the examples: with DUR_W = 16 these lines have these input words. -/
def Obligations.InputWordExamples : Prop :=
  encodeLine Params.default [.push 5000] = 0x11388 ∧
  encodeLine Params.default [.tick] = 0x20000 ∧
  encodeLine Params.default [.push 5000, .tick] = 0x31388 ∧
  encodeLine Params.default [.rst] = 0x40000 ∧
  encodeLine Params.default [] = 0x00000

/-- R101: the encoding of a well-formed line, read back, gives the inputs of the line's cycle: each kind of item sets
its own input and no other, in whatever order the items stand. -/
def Obligations.StimulusLineRoundTrip : Prop :=
  ∀ (p : Params) (l : StimLine), StimLine.wellFormed p l = true →
    decodeInput p.durW (encodeLine p l) = some (lineInputs l) ∧
    ((lineInputs l).rst = true ↔ .rst ∈ l) ∧
    ((lineInputs l).usTick = true ↔ .tick ∈ l) ∧
    ((lineInputs l).capValid = true ↔ ∃ d, .push d ∈ l) ∧
    (∀ d, .push d ∈ l → (lineInputs l).capDur = d)

/-- R102: a well-formed FRAMES expands to one push per buffer entry and the NOP of the decode cycle, and each channel's
pair sums to its Si. -/
def Obligations.FramesExpansion : Prop :=
  ∀ (p : Params) (g : Nat) (sums : List Nat), (Stimulus.frames g sums).wellFormed p = true →
    ∃ ls, (Stimulus.frames g sums).expand p = some ls ∧ ls.length = p.cap + 1 ∧
      ls[p.cap]? = some [] ∧ ls[0]? = some [.push g] ∧ ls[1]? = some [.push 400] ∧
      ∀ i, i < p.nCh → ∃ a b, ls[2 + 2 * i]? = some [.push a] ∧ ls[3 + 2 * i]? = some [.push b] ∧
        some (a + b) = sums[i]?

/-- R87, R44: on a bus of codes of w bits each, channel i occupies bits (i+1)*w-1 down to i*w. -/
def Obligations.BusHoldsChannelsInOrder : Prop :=
  ∀ (w : Nat) (codes : List Nat) (i c : Nat), codes[i]? = some c → c < 2 ^ w →
    packBus w codes / 2 ^ (i * w) % 2 ^ w = c

/-- R44, with the codes of R87 to R91: what each output port shows of a state whose fields fit their widths. The command
ports give the command back, the throttle in two's complement (V-OUT-6: -307 is 0xECD, -512 is 0xE00 in 12 bits); ind and
dec_state show the codes of the indicator and of the decoder's state, and dec_state never 0b11; channel i stands in its
place on ch_code, and a code of CODE_W bits on the bus of the cycle's dec_vec. The ports as functions are the model's own
(log entry 7). -/
def Obligations.PortCodes : Prop :=
  ∀ s : State, s.params.Legal → s.Typed →
    s.cmdSteerPort.toNat = s.cmdSteer ∧
    s.cmdThrPort.toInt = s.cmdThr ∧
    (s.params.thrW = 12 → s.cmdThr = -307 → s.cmdThrPort.toNat = 0xECD) ∧
    (s.params.thrW = 12 → s.cmdThr = -512 → s.cmdThrPort.toNat = 0xE00) ∧
    (s.indPort = 0b00 ↔ s.ind = .none) ∧ (s.indPort = 0b01 ↔ s.ind = .alive) ∧
    (s.indPort = 0b10 ↔ s.ind = .failsafe) ∧ s.indPort ≠ 0b11 ∧
    (s.decStatePort = 0b00 ↔ s.buf.length = 0 ∨ s.buf.getD 0 0 < s.params.syncThr) ∧
    (s.decStatePort = 0b01 ↔ 1 ≤ s.buf.length ∧ s.params.syncThr ≤ s.buf.getD 0 0 ∧ s.buf.length < s.params.cap) ∧
    (s.decStatePort = 0b10 ↔ s.params.syncThr ≤ s.buf.getD 0 0 ∧ s.buf.length = s.params.cap) ∧
    s.decStatePort ≠ 0b11 ∧
    (s.chValidPort = 1 ↔ s.chValid = true) ∧
    (s.failsafePort = 1 ↔ s.params.timeout < s.wd) ∧
    s.bufLenPort.toNat = s.buf.length ∧
    (∀ i c, s.ch[i]? = some c → s.chCodePort.toNat / 2 ^ (i * codeW s.params) % 2 ^ codeW s.params = c) ∧
    (∀ i c, s.outs.decVec[i]? = some c → c < 2 ^ codeW s.params →
      s.decVecPort.toNat / 2 ^ (i * codeW s.params) % 2 ^ codeW s.params = c)

/-- The model's own (log entry 9), resting on R93 and R95. In a state in which a legal word with RST = 0 is placed, that word
is the next cycle's, and the cycle runs. With TIMEOUT = 0 this leaves out the words with TK = 1 and EXP = 0, which no
state of such a block gives, since its first tick is past the timeout. A word with RST = 1 is placed as its inputs alone:
the next cycle's word has RST = 1 and decodes to RESET, and its other bits, which every unit ignores, may differ. -/
def Obligations.EveryLegalWordArises : Prop :=
  (∀ (s : State) (w : ConditionWord), s.Ready → legalWord w = true → w.getLsbD 6 = false →
    (1 ≤ s.params.timeout ∨ w.getLsbD 4 = false ∨ w.getLsbD 5 = true) →
    (s.withFetchWord 8 w.toNat).conditionWord = w ∧ (s.withFetchWord 8 w.toNat).Ready) ∧
  (∀ s : State, s.params.timeout = 0 → s.conditionWord.getLsbD 4 = true → s.conditionWord.getLsbD 5 = true) ∧
  (∀ (s : State) (w : ConditionWord), s.Ready → w.getLsbD 6 = true →
    (s.withFetchWord 8 w.toNat).conditionWord.getLsbD 6 = true ∧
    decode (s.withFetchWord 8 w.toNat).conditionWord = .ok .reset ∧ (s.withFetchWord 8 w.toNat).Ready)

/-! ### A step runs the decoded operations -/

/-- R97, R111: when the cycle's condition word decodes to RESET, the step is RESET; when it decodes to one operation
for each unit, the step is those four operations. They are run in the order output, watchdog, decoder, capture, each on
the state that the one before leaves, which is the model's inference of what all units at one edge do (log entry 1; that
it is R111's next state is a statement of its own). Around them the step does one thing: the environment's next inputs
become the current ones. -/
def Obligations.StepRunsTheDecodedOperations : Prop :=
  ∀ s : State, s.Ready →
    (decode s.conditionWord = .ok .reset → step s = andThen (exec .reset s) (fun t => .next t.nextCycle)) ∧
    (∀ d c w o, decode s.conditionWord = .ok (.ops d c w o) →
      step s = andThen (andThen (andThen (andThen (exec o s) (exec w)) (exec d)) (exec c))
        (fun t => .next t.nextCycle))

/-- R111: the step is the text of R111, phase by phase, from every state in which a cycle can run; cap_dur and the policy's
command are as their ports carry them (log entry 7). -/
def Obligations.StepIsThePhaseText : Prop :=
  ∀ s : State, s.Ready → step s = phaseStep s

/-- R45: the Mealy outputs that a cycle's operations drive are those of the table, from the state at the cycle's start
and its inputs alone: dec_fire if and only if the action is DECODE and rst = 0; cap_pause and ind_alive_stb equal to it;
dec_vec the decoded codes, and all zeros otherwise; ind_fs_stb where the override applies. They are what the output
functions of Machine/Ports.lean say. -/
def Obligations.CycleDrivesItsMealyOutputs : Prop :=
  ∀ s t : State, step s = .next t →
    (t.outs.decFire = true ↔ s.act = .decode ∧ s.input.rst = false) ∧
    t.outs.capPause = t.outs.decFire ∧
    (t.outs.decFire = true → s.decodeVector = some t.outs.decVec) ∧
    (t.outs.decFire = false → t.outs.decVec = List.replicate s.params.nCh 0) ∧
    t.outs.indAliveStb = t.outs.decFire ∧
    (t.outs.indFsStb = true ↔ s.input.rst = false ∧ s.act ≠ .decode ∧ t.params.timeout < t.wd) ∧
    t.outs = s.mealyOutputs

/-- R70: the pause bracket. cap_pause is 1 in a decode cycle and in no other; the buffer is empty after it, whatever was
offered in it; and capture is resumed in the next cycle. -/
def Obligations.PauseBracket : Prop :=
  ∀ s t : State, step s = .next t → s.input.rst = false →
    (s.mealyOutputs.capPause = true ↔ s.mealyOutputs.decFire = true) ∧
    (s.mealyOutputs.capPause = true → t.buf = [] ∧ t.mealyOutputs.capPause = false) ∧
    (s.mealyOutputs.capPause = true → ∀ (i : Inputs) (u : State), i.rst = false →
      step { s with pending := i :: s.pending.tail } = .next u → u.buf = [])

/-! ### The operations, one by one: where they complete, and their whole effect -/

/-- R151, R153: DEC_IDLE and DEC_WAIT complete in every state and change nothing but the decoder's Mealy outputs, which
say that there is no decode. -/
def Obligations.IdleAndWaitChangeNothing : Prop :=
  ∀ s : State, ∀ i ∈ [Instr.decIdle, Instr.decWait],
    exec i s = .next { s with
      outs := { s.outs with decFire := false, capPause := false, decVec := List.replicate s.params.nCh 0 } }

/-- R152, R134: DEC_TRIM completes in every state with an entry in the buffer: it drops the oldest and changes nothing
else but the decoder's Mealy outputs; every other entry is read one index lower. -/
def Obligations.TrimDropsTheOldestEntry : Prop :=
  ∀ s : State, 1 ≤ s.buf.length →
    ∃ t, exec .decTrim s = .next t ∧
      t = { s with
        buf := s.buf.tail
        outs := { s.outs with decFire := false, capPause := false, decVec := List.replicate s.params.nCh 0 } } ∧
      ∀ k, t.bufRead k = s.bufRead (k + 1)

/-- R154, R155, R158, R135: DEC_DECODE completes in every state with at least CAP entries in the buffer: the channel
register and dec_vec get for channel i the clamped offset of entries 2+2i and 3+2i, ch_valid is set, the buffer is
cleared, dec_fire and cap_pause are 1, and nothing else changes. -/
def Obligations.DecodeWritesAllChannels : Prop :=
  ∀ s : State, s.params.cap ≤ s.buf.length →
    ∃ vec : List Nat,
      exec .decDecode s = .next { s with
        buf := [], ch := vec, chValid := true,
        outs := { s.outs with decFire := true, capPause := true, decVec := vec } } ∧
      vec.length = s.params.nCh ∧
      ∀ i, i < s.params.nCh → ∃ a b, s.bufRead (2 + 2 * i) = some a ∧ s.bufRead (3 + 2 * i) = some b ∧
        vec[i]? = some (min (max ((a : Int) + b - s.params.baseline) 0) s.params.scale).toNat

/-- R138, R139: CAP_NONE and CAP_DROP complete in every state and change nothing: cap_dur is not read, or is lost. -/
def Obligations.NoneAndDropChangeNothing : Prop :=
  ∀ s : State, ∀ i ∈ [Instr.capNone, Instr.capDrop], exec i s = .next s

/-- R133, R137: CAP_PUSH completes in every state whose buffer is not full: cap_dur, as its DUR_W wires carry it (log entry
7), is appended
behind every entry, which stay where they are, and nothing else changes. Into a full buffer it is the model fault
BufferOverflow. -/
def Obligations.PushAppendsOrOverflows : Prop :=
  ∀ s : State,
    (s.buf.length < s.params.cap →
      ∃ t, exec .capPush s = .next t ∧ t = { s with buf := s.buf ++ [s.input.capDur % 2 ^ s.params.durW] } ∧
        (∀ k, k < s.buf.length → t.bufRead k = s.bufRead k) ∧
        t.bufRead s.buf.length = some (s.input.capDur % 2 ^ s.params.durW) ∧
        (∀ k, s.buf.length < k → t.bufRead k = none)) ∧
    (s.buf.length = s.params.cap → exec .capPush s = .fault .bufferOverflow)

/-- R202, R203, R204: the watchdog's operations complete in every state and change nothing but the count: to 0, to one
more but at most TIMEOUT + 1, and to itself. -/
def Obligations.WatchdogOperations : Prop :=
  ∀ s : State,
    exec .wdClear s = .next { s with wd := 0 } ∧
    exec .wdTick s = .next { s with wd := min (s.wd + 1) (s.params.timeout + 1) } ∧
    exec .wdHold s = .next { s with wd := s.wd }

/-- R221, R225, R181: OUT_UPDATE completes in every state with a frame in the buffer for whose vector the policy answers
with a command: the command register gets the command as the ports carry it, with no check of its range, the indicator
becomes ALIVE with its strobe, and nothing else changes. -/
def Obligations.UpdateWritesThePolicysCommand : Prop :=
  ∀ (s : State) (vec : List Nat) (steer : Nat) (thr : Int),
    s.decodeVector = some vec → Policy.answer s.params s.policy vec = .update steer thr →
    steer < 2 ^ s.params.steerW →
    1 ≤ s.params.thrW → -(2 ^ (s.params.thrW - 1) : Int) ≤ thr → thr < (2 ^ (s.params.thrW - 1) : Int) →
    exec .outUpdate s = .next { s with
      cmdSteer := steer, cmdThr := thr, ind := .alive,
      outs := { s.outs with indAliveStb := true, indFsStb := false } }

/-- R222 to R227, R247: the other operations of the output unit complete in every state. OUT_POLICY_HOLD keeps the
command and sets ALIVE; OUT_OVERRIDE writes NEUTRAL and FAILSAFE, each with its strobe; OUT_HOLD keeps the command and
the indicator. Nothing else changes: the buffer and the channel register are untouched, and no previous command is
saved. -/
def Obligations.OutputOperations : Prop :=
  ∀ s : State,
    exec .outPolicyHold s = .next { s with
      ind := .alive, outs := { s.outs with indAliveStb := true, indFsStb := false } } ∧
    exec .outOverride s = .next { s with
      cmdSteer := s.params.neutralSteer, cmdThr := s.params.neutralThr, ind := .failsafe,
      outs := { s.outs with indAliveStb := false, indFsStb := true } } ∧
    exec .outHold s = .next { s with outs := { s.outs with indAliveStb := false, indFsStb := false } }

/-- The model's choice (log entry 6): an operation that is run in a state which can not select it and gives it no operand
is the model fault IllegalCW: a trim of an empty buffer, a decode of a buffer that lacks an entry, an update for which
the policy has no command. -/
def Obligations.OperationsWithoutOperandFault : Prop :=
  ∀ s : State,
    (s.buf.length = 0 → exec .decTrim s = .fault .illegalCW) ∧
    (s.buf.length < s.params.cap → 1 ≤ s.params.nCh → exec .decDecode s = .fault .illegalCW) ∧
    (s.policyAnswer = some .hold → exec .outUpdate s = .fault .illegalCW)

/-! ### The decode datapath -/

/-- R156: DecodeChannel(a, b) is clamp(a + b - BASELINE, 0, SCALE), a code of CODE_W bits, and as n / SCALE it is the offset
over SCALE, clamped to [0, 1], exactly; the sum of two DUR_W-bit durations is at most 2^(DUR_W+1)-2. -/
def Obligations.DecodeChannelRule : Prop :=
  ∀ (p : Params) (a b : Nat),
    (decodeChannel p a b : Int) = min (max ((a : Int) + b - p.baseline) 0) p.scale ∧
    decodeChannel p a b < 2 ^ codeW p ∧
    (a < 2 ^ p.durW → b < 2 ^ p.durW → a + b ≤ 2 ^ (p.durW + 1) - 2) ∧
    (1 ≤ p.scale → (decodeChannel p a b : Rat) / (p.scale : Rat) =
      min (max (((a : Rat) + (b : Rat) - (p.baseline : Rat)) / (p.scale : Rat)) 0) 1)

/-- R160, R241: no decoder value leaves its width: the pair sum fits DUR_W + 1 bits, the offset DUR_W + 2 bits two's
complement, the code CODE_W bits; a sum below the baseline gives 0 and one above the window gives SCALE. -/
def Obligations.DecoderValuesFitTheirWidths : Prop :=
  ∀ (p : Params) (a b : Nat), a < 2 ^ p.durW → b < 2 ^ p.durW → p.baseline ≤ 2 ^ (p.durW + 1) - 2 →
    pairSum a b ≤ 2 ^ (p.durW + 1) - 2 ∧
    -(2 ^ (p.durW + 1) : Int) ≤ pairOffset p a b ∧ pairOffset p a b < (2 ^ (p.durW + 1) : Int) ∧
    decodeChannel p a b < 2 ^ codeW p ∧
    (pairSum a b < p.baseline → decodeChannel p a b = 0) ∧
    (p.baseline + p.scale < pairSum a b → decodeChannel p a b = p.scale)

/-- R161: in a decode cycle every lane is written, and channel i's code depends on entries 2+2i and 3+2i alone: two full
synced buffers that agree on these two give channel i the same code, whatever stands elsewhere. -/
def Obligations.ChannelsAreIndependentLanes : Prop :=
  ∀ s t s' t' : State, t.params = s.params → s.act = .decode → t.act = .decode →
    s.input.rst = false → t.input.rst = false → step s = .next s' → step t = .next t' →
    s'.ch.length = s.params.nCh ∧
    ∀ i, i < s.params.nCh →
      s.buf[2 + 2 * i]? = t.buf[2 + 2 * i]? → s.buf[3 + 2 * i]? = t.buf[3 + 2 * i]? → s'.ch[i]? = t'.ch[i]?

/-! ### Cycles -/

/-- R71: in a non-reset cycle that is no decode cycle, first the pop, if the action is TRIM, then the push, if cap_valid =
1, both on the buffer as it stands at the cycle's start; so a full buffer that is trimmed and pushed stays full. The
action reads the buffer alone, never the duration that is pushed. -/
def Obligations.BufferOfTheNextCycle : Prop :=
  (∀ s t : State, step s = .next t → s.input.rst = false → s.act ≠ .decode →
    t.buf = (if s.act = .trim then s.buf.tail else s.buf) ++
      (if s.input.capValid then [s.capDur] else []) ∧
    (s.act = .trim → s.input.capValid = true → s.buf.length = s.params.cap → t.buf.length = s.params.cap)) ∧
  (∀ s u : State, u.params = s.params → u.buf = s.buf → u.act = s.act)

/-- R137: no cycle makes a buffer of at most CAP entries longer than CAP, or raises Fault(BufferOverflow) from it: idle,
waiting, trimming with a push, and decoding with a push. -/
def Obligations.CapacityIsNeverExceeded : Prop :=
  ∀ s : State, s.buf.length ≤ s.params.cap →
    step s ≠ .fault .bufferOverflow ∧ ∀ t, step s = .next t → t.buf.length ≤ t.params.cap

/-- R158: in a decode cycle the channel register gets every code of the cycle's vector, at one edge, and ch_valid becomes
1; dec_vec shows the same values in the decode cycle, and the ch_code bus from the next cycle on; in every other non-reset
cycle both stay. -/
def Obligations.ChannelRegisterWriters : Prop :=
  ∀ s t : State, step s = .next t → s.input.rst = false →
    (s.act = .decode →
      t.chValid = true ∧ t.ch = s.mealyOutputs.decVec ∧ t.ch.length = s.params.nCh ∧
      t.chCodePort.toNat = packBus (codeW s.params) t.ch % 2 ^ (s.params.nCh * codeW s.params) ∧
      ∀ i, i < s.params.nCh → ∃ a b, s.bufRead (2 + 2 * i) = some a ∧ s.bufRead (3 + 2 * i) = some b ∧
        t.ch[i]? = some (decodeChannel s.params a b)) ∧
    (s.act ≠ .decode → t.ch = s.ch ∧ t.chValid = s.chValid)

/-- R202, R203, R204: in a non-reset cycle the watchdog performs WD_CLEAR where the action is DECODE, else WD_TICK with a
tick and WD_HOLD without; the count becomes 0, one more up to TIMEOUT + 1, or stays; failsafe becomes 0, becomes 1 when
the new count is past TIMEOUT, or stays. -/
def Obligations.WatchdogUnitRules : Prop :=
  ∀ s t : State, step s = .next t → s.input.rst = false →
    ∃ d c w o, decode s.conditionWord = .ok (.ops d c w o) ∧
      (w = .wdClear ↔ s.act = .decode) ∧
      (w = .wdTick ↔ s.act ≠ .decode ∧ s.input.usTick = true) ∧
      (w = .wdHold ↔ s.act ≠ .decode ∧ s.input.usTick = false) ∧
      (w = .wdClear → t.wd = 0 ∧ t.failsafe = false) ∧
      (w = .wdTick → t.wd = min (s.wd + 1) (s.params.timeout + 1) ∧
        (t.failsafe = true ↔ s.params.timeout < min (s.wd + 1) (s.params.timeout + 1))) ∧
      (w = .wdHold → t.wd = s.wd ∧ t.failsafe = s.failsafe)

/-- R222, R223, R224, R226: in a non-reset cycle the output unit performs OUT_POLICY_HOLD where the action is DECODE and
the policy holds; OUT_OVERRIDE where there is no decode and the new count is past TIMEOUT; OUT_HOLD where it is not. The
command stays, is forced to NEUTRAL, or stays; the indicator becomes ALIVE, FAILSAFE, or stays; ind_fs_stb is 1 with the
override alone, in which the policy is not consulted and after which failsafe shows from the next cycle on; and with a
policy's hold the watchdog is cleared all the same. -/
def Obligations.OutputUnitRules : Prop :=
  ∀ s t : State, step s = .next t → s.input.rst = false →
    ∃ d c w o, decode s.conditionWord = .ok (.ops d c w o) ∧
      (o = .outPolicyHold ↔ s.act = .decode ∧ s.policyAnswer = some .hold) ∧
      (o = .outOverride ↔ s.act ≠ .decode ∧ s.params.timeout < t.wd) ∧
      (o = .outHold ↔ s.act ≠ .decode ∧ t.wd ≤ s.params.timeout) ∧
      (o = .outPolicyHold → t.cmdSteer = s.cmdSteer ∧ t.cmdThr = s.cmdThr ∧ t.ind = .alive ∧ t.wd = 0 ∧
        t.outs.indFsStb = false) ∧
      (o = .outOverride → t.CommandNeutral ∧ t.ind = .failsafe ∧ t.outs.indFsStb = true ∧ t.failsafe = true ∧
        ∀ q : Policy, q.Allowed s.params → step { s with policy := q } = .next { t with policy := q }) ∧
      (o = .outHold → t.cmdSteer = s.cmdSteer ∧ t.cmdThr = s.cmdThr ∧ t.ind = s.ind ∧ t.outs.indFsStb = false)

/-- R205: the override applies in a cycle when the count after the cycle's clear, tick or hold is past TIMEOUT, which is
when it is TIMEOUT + 1, and when EXP is 1 and DEC is 0; between cycles, the failsafe output is the same comparison. -/
def Obligations.OverrideCondition : Prop :=
  ∀ s t : State, step s = .next t → s.input.rst = false →
    (t.outs.indFsStb = true ↔ s.params.timeout < t.wd) ∧
    (s.params.timeout < t.wd ↔ t.wd = s.params.timeout + 1) ∧
    (t.outs.indFsStb = true ↔ s.conditionWord.getLsbD 5 = true ∧ s.conditionWord.getLsbD 0 = false) ∧
    (t.failsafePort = 1 ↔ s.params.timeout < t.wd)

/-- R228: the override state machine, NORMAL being failsafe = 0 and FAILSAFE failsafe = 1. From either, a decode gives
NORMAL with the indicator ALIVE and the policy's command, or on Hold the command as it was, which in FAILSAFE, under
(I5), is NEUTRAL. From NORMAL, without a
decode, the state stays NORMAL with command and indicator kept while the count is not past TIMEOUT, and else becomes
FAILSAFE with NEUTRAL and the indicator FAILSAFE; from FAILSAFE, without a decode, it stays so. A reset cycle gives
NORMAL with command NEUTRAL and indicator NONE. -/
def Obligations.OverrideStateMachine : Prop :=
  ∀ s t : State, step s = .next t →
    (s.input.rst = true → t.failsafe = false ∧ t.CommandNeutral ∧ t.ind = .none) ∧
    (s.input.rst = false → s.act = .decode →
      t.failsafe = false ∧ t.ind = .alive ∧
      (∀ steer thr, s.policyAnswer = some (.update steer thr) → t.cmdSteer = steer ∧ t.cmdThr = thr) ∧
      (s.policyAnswer = some .hold → t.cmdSteer = s.cmdSteer ∧ t.cmdThr = s.cmdThr) ∧
      (s.Inv → s.failsafe = true → s.policyAnswer = some .hold → t.CommandNeutral)) ∧
    (s.input.rst = false → s.act ≠ .decode → s.failsafe = false →
      (t.wd ≤ s.params.timeout →
        t.failsafe = false ∧ t.cmdSteer = s.cmdSteer ∧ t.cmdThr = s.cmdThr ∧ t.ind = s.ind) ∧
      (s.params.timeout < t.wd → t.failsafe = true ∧ t.CommandNeutral ∧ t.ind = .failsafe)) ∧
    (s.input.rst = false → s.act ≠ .decode → s.failsafe = true →
      t.failsafe = true ∧ t.CommandNeutral ∧ t.ind = .failsafe)

/-- R206: in a cycle that is neither a decode nor a reset the count never falls; so once it is past TIMEOUT, the override
applies in every cycle, however many, until a decode cycle or reset; and these two are the only exits. -/
def Obligations.FailsafePersists : Prop :=
  (∀ s t : State, step s = .next t → s.input.rst = false → s.act ≠ .decode → s.wd ≤ t.wd) ∧
  (∀ (k : Nat) (s t : State), s.failsafe = true → s.quietFor (k + 1) → s.after (k + 1) = some t →
    t.failsafe = true ∧ t.outs.indFsStb = true ∧ t.CommandNeutral ∧ t.ind = .failsafe) ∧
  (∀ s t : State, step s = .next t → s.failsafe = true → t.failsafe = false →
    s.act = .decode ∨ s.input.rst = true)

/-- R247: failsafe entry is precise and saves nothing: it is a tick that finds the count at TIMEOUT; at its edge the
count holds TIMEOUT + 1, the command is NEUTRAL and the indicator FAILSAFE, the channel register is untouched, and the
buffer goes on as in any other cycle. -/
def Obligations.FailsafeEntry : Prop :=
  ∀ s t : State, step s = .next t → s.failsafe = false →
    (t.failsafe = true ↔
      s.input.rst = false ∧ s.act ≠ .decode ∧ s.input.usTick = true ∧ s.wd = s.params.timeout) ∧
    (t.failsafe = true →
      t.wd = s.params.timeout + 1 ∧ t.CommandNeutral ∧ t.ind = .failsafe ∧ t.ch = s.ch ∧ t.chValid = s.chValid ∧
      t.buf = (if s.act = .trim then s.buf.tail else s.buf) ++ (if s.input.capValid then [s.capDur] else []))

/-- R248, R228: the only exits from failsafe are a decode cycle and a reset cycle; with either, the count is 0, and with
a decode on which the policy holds, the command stays as the override left it. -/
def Obligations.FailsafeExit : Prop :=
  ∀ s t : State, step s = .next t → s.failsafe = true →
    (t.failsafe = false ↔ s.input.rst = true ∨ s.act = .decode) ∧
    (t.failsafe = false → t.wd = 0) ∧
    (s.input.rst = false → s.act = .decode → t.ind = .alive ∧
      (s.CommandNeutral → s.policyAnswer = some .hold → t.CommandNeutral))

/-- R246: how events in one cycle combine, in its seven points: reset overrides everything; a decode beats a tick and
beats a push; a decode and the override never meet; a trim and a push both take effect, pop first; an override and a push
both take effect; a tick and a push both take effect. And a cycle reports at most one error class: a clamp is a decode
cycle's, an override is not. -/
def Obligations.SimultaneousEvents : Prop :=
  ∀ s t : State, step s = .next t →
    (s.input.rst = true →
      t = { State.resetWith s.params s.policy with pending := s.pending.tail, cycle := s.cycle + 1 }) ∧
    (s.input.rst = false →
      (s.act = .decode → s.input.usTick = true → t.wd = 0) ∧
      (s.act = .decode → s.input.capValid = true → t.buf = []) ∧
      (s.act = .decode → t.wd = 0 ∧ t.outs.indFsStb = false) ∧
      (s.act = .trim → s.input.capValid = true → t.buf = s.buf.tail ++ [s.capDur]) ∧
      (t.outs.indFsStb = true → s.input.capValid = true → t.CommandNeutral ∧ t.buf.getLast? = some s.capDur) ∧
      (s.act ≠ .decode → s.input.usTick = true → s.input.capValid = true →
        t.wd = min (s.wd + 1) (s.params.timeout + 1) ∧ t.buf.getLast? = some s.capDur) ∧
      (t.outs.indFsStb = true → t.outs.decFire = false))

/-- R114, R24: the loop state machine. Into SYNCED from searching: a push of at least SYNC_THR into an empty buffer, or into
one that a trim empties in the same cycle; or a trim that exposes such a value, which only a state that breaks (I2) allows
(such a trim of a full buffer with a push goes to DECODING at once). From SYNCED, never back to searching, and to
DECODING exactly when a push brings the buffer to CAP entries. From DECODING always to searching. -/
def Obligations.LoopStateMachine : Prop :=
  ∀ s t : State, step s = .next t → s.input.rst = false →
    (s.buf = [] → (t.decState = .synced ↔ s.input.capValid = true ∧ s.params.syncThr ≤ s.capDur)) ∧
    (s.act = .trim → s.buf.length = 1 →
      (t.decState = .synced ↔ s.input.capValid = true ∧ s.params.syncThr ≤ s.capDur)) ∧
    (s.act = .trim → 2 ≤ s.buf.length →
      (t.decState = .searching ↔ s.buf.getD 1 0 < s.params.syncThr) ∧
      (t.decState = .synced ↔ s.params.syncThr ≤ s.buf.getD 1 0 ∧ t.buf.length < s.params.cap)) ∧
    (s.Inv → s.act = .trim → s.buf.length = 1) ∧
    (s.Inv → s.decState = .searching → t.decState ≠ .decoding) ∧
    (s.decState = .synced → t.decState = .synced ∨ t.decState = .decoding) ∧
    (s.decState = .synced →
      (t.decState = .decoding ↔ s.input.capValid = true ∧ s.buf.length + 1 = s.params.cap)) ∧
    (s.decState = .decoding → t.decState = .searching)

/-- R280: only the cycle right after a push can be a decode cycle; so a duration offered after a cycle without a push is
not lost, unless by a reset: the cycle that takes it runs and leaves it as the newest entry. -/
def Obligations.DecodeOnlyRightAfterAPush : Prop :=
  ∀ s t : State, step s = .next t → s.input.capValid = false →
    t.act ≠ .decode ∧
    (t.input.rst = false → t.input.capValid = true →
      ∃ u, step t = .next u ∧ u.buf.getLast? = some t.capDur)

/-! ### What can not matter -/

/-- R41, R138: cap_dur is ignored when cap_valid = 0: two cycles that differ in it alone are one. -/
def Obligations.DurationIgnoredWithoutValid : Prop :=
  ∀ (s : State) (i : Inputs) (d : Nat) (rest : List Inputs), i.capValid = false →
    step { s with pending := i :: rest } = step { s with pending := { i with capDur := d } :: rest }

/-- R180: the policy is consulted in decode cycles only: in any other cycle another allowed policy gives the same next
state. -/
def Obligations.PolicyConsultedOnlyInDecodeCycles : Prop :=
  ∀ (s t : State) (q : Policy), q.Allowed s.params → s.act ≠ .decode → step s = .next t →
    step { s with policy := q } = .next { t with policy := q }

/-- R30: no rule reads the channel register back: with other legal codes in it, the next state is the same in every
other field, and in these too after a decode or a reset. -/
def Obligations.ChannelRegisterIsNeverReadBack : Prop :=
  ∀ (s t : State) (vec : List Nat) (v : Bool), (∀ c ∈ vec, c ≤ s.params.scale) → step s = .next t →
    ∃ u, step { s with ch := vec, chValid := v } = .next u ∧ u = { t with ch := u.ch, chValid := u.chValid } ∧
      (s.input.rst = true ∨ s.act = .decode → u = t)

/-! ### Runs of several cycles -/

/-- R203, R205, R208, R209: over any run of cycles without a decode or a reset, from any state in which a cycle runs, the
count is what it was and one per tick, saturated at TIMEOUT + 1; so after a decode or a reset, failsafe holds from the
(TIMEOUT+1)-th tick on and not before, however many cycles without a tick run. -/
def Obligations.FailsafeAfterTimeoutTicks : Prop :=
  ∀ (k : Nat) (s t : State), s.quietFor k → s.after k = some t →
    t.wd = (if s.ticksOver k = 0 then s.wd else min (s.wd + s.ticksOver k) (s.params.timeout + 1)) ∧
    (s.wd = 0 → (t.failsafe = true ↔ s.params.timeout + 1 ≤ s.ticksOver k)) ∧
    (s.Inv → t.failsafe = true → t.CommandNeutral ∧ t.ind = .failsafe)

/-- R152, E7: k leading short values are trimmed in exactly k cycles, one a cycle, with no decode in any of them, from any
state in which a cycle runs, full buffers included. -/
def Obligations.LeadingShortValuesAreTrimmed : Prop :=
  ∀ (shorts rest : List Nat) (s : State), s.Ready → s.buf = shorts ++ rest →
    (∀ d ∈ shorts, d < s.params.syncThr) →
    shorts.length ≤ s.pending.length →
    (∀ i ∈ s.pending.take shorts.length, i.rst = false ∧ i.capValid = false) →
    ∃ t, s.after shorts.length = some t ∧ t.buf = rest ∧ t.ch = s.ch ∧ t.chValid = s.chValid ∧
      s.quietFor shorts.length

/-- R153, R154, R159, R271: any CAP durations of which the first is at least SYNC_THR, pushed into an empty buffer with any
number of cycles before and between them, ticks or not, are decoded in the cycle after the last of them and in none before,
whatever the environment does in that cycle but reset: every channel gets the code of its pair, the buffer is empty
again, and the watchdog is cleared. -/
def Obligations.CompleteFrameIsDecoded : Prop :=
  ∀ (s : State) (ins pushes more : List Inputs) (first lastPush next : Inputs),
    s.Ready → s.buf = [] → s.pending = ins ++ next :: more →
    (∀ i ∈ ins, i.rst = false ∧ (i.capValid = true → i.capDur < 2 ^ s.params.durW)) →
    pushes = ins.filter (fun i => i.capValid) → pushes.length = s.params.cap →
    pushes.head? = some first → s.params.syncThr ≤ first.capDur →
    ins.getLast? = some lastPush → lastPush.capValid = true → next.rst = false →
    s.quietFor ins.length ∧
    ∃ t, s.after (ins.length + 1) = some t ∧
      t.buf = [] ∧ t.chValid = true ∧ t.wd = 0 ∧ t.ind = .alive ∧ t.outs.decFire = true ∧ t.pending = more ∧
      t.ch.length = s.params.nCh ∧
      ∀ i, i < s.params.nCh → ∃ a b, pushes[2 + 2 * i]? = some a ∧ pushes[3 + 2 * i]? = some b ∧
        t.ch[i]? = some (decodeChannel s.params a.capDur b.capDur)

/-! ### The reference policy -/

/-- R187: with SCALE = 1024, the reference instance on codes, in integers: the mode by the code of channel 2, and the
exact forms of the two mapped modes. -/
def Obligations.ReferencePolicyOnCodes : Prop :=
  ∀ (p : Params) (n0 n1 n2 : Nat) (more : List Nat), p.scale = 1024 → n0 ≤ 1024 → n1 ≤ 1024 → n2 ≤ 1024 →
    referencePolicy p (n0 :: n1 :: n2 :: more) =
      if n2 ≤ 337 then .update (180 * n1) (2 * (n0 : Int) - 1024)
      else if n2 ≤ 675 then
        .update (180 * n1) (((2 * (n0 : Int) - 1024) * (10240 - 7 * |2 * (n1 : Int) - 1024|)).tdiv 10240)
      else .hold

/-- R188: the mode boundaries that the source gives, on channel values, the last of which leaves the output unchanged; none
of the four is a code of the form n/1024. -/
def Obligations.ReferenceModeBoundaries : Prop :=
  referenceMode (329999 / 1000000) = .raw ∧
  referenceMode (33 / 100) = .steerAssist ∧
  referenceMode (659999 / 1000000) = .steerAssist ∧
  referenceMode (66 / 100) = .unmapped ∧
  (∀ v0 v1 : Rat, referenceOn v0 v1 (66 / 100) = .hold) ∧
  ∀ n : Nat, ∀ v ∈ [(329999 / 1000000 : Rat), 33 / 100, 659999 / 1000000, 66 / 100], (n : Rat) / 1024 ≠ v

/-- R183, R184, R185 and E4, E5: the worked examples of the source, on rationals. -/
def Obligations.ReferencePolicyExamples : Prop :=
  referenceOn (3 / 4) (1 / 2) (1 / 10) = .update 92160 512 ∧
  referenceOn 1 1 (1 / 2) = .update 184320 307 ∧
  referenceOn 1 0 (66 / 100) = .hold

/-- R181, R183, R184: on channel codes, whatever the scale, the reference instance answers in the range that the
actuators ask for, and its codes fit the ports of every legal block as they are. -/
def Obligations.ReferencePolicyStaysInRange : Prop :=
  ∀ (p : Params) (vec : List Nat), p.Legal → (∀ c ∈ vec, c ≤ p.scale) →
    ∀ steer thr, referencePolicy p vec = .update steer thr →
      steer ≤ 184320 ∧ -1024 ≤ thr ∧ thr ≤ 1024 ∧ policyPorts p (.update steer thr) = .update steer thr
end

