-- ==== Sys2Proof/Laws/Decode.lean ====
section
/-! SUPPORT. Laws/Decode.lean: the condition word's bits survive the word, the named checks of R96, what a legal word of
a non-reset cycle decodes to, and the operation map's rows. -/

namespace Sys2Proof

@[simp] theorem CwBits.ofWord_toWord (c : CwBits) : CwBits.ofWord c.toWord = c := by
  rcases c with ⟨dec, trm, syn, pv, tk, exp, rst, pu⟩
  revert dec trm syn pv tk exp rst pu
  decide

theorem CwBits.toWord_ofWord (w : ConditionWord) : (CwBits.ofWord w).toWord = w := by
  revert w
  decide

theorem CwBits.check_none_iff (c : CwBits) :
    c.check = none ↔ c.dec.toNat + c.trm.toNat + c.syn.toNat ≤ 1 ∧ (c.pu = true → c.dec = true) := by
  rcases c with ⟨dec, trm, syn, pv, tk, exp, rst, pu⟩
  cases dec <;> cases trm <;> cases syn <;> cases pu <;> simp [CwBits.check]

/-- A reset word selects RESET, whatever its other bits are. -/
theorem decode_toWord_reset (c : CwBits) (hr : c.rst = true) : decode c.toWord = .ok .reset := by
  simp [decode, hr]

/-- What a legal word of a non-reset cycle decodes to. -/
theorem decode_toWord_ops (c : CwBits) (hr : c.rst = false) (hc : c.check = none) :
    decode c.toWord = .ok (.ops
      (if c.dec then .decDecode else if c.trm then .decTrim else if c.syn then .decWait else .decIdle)
      (if c.pv then (if c.dec then .capDrop else .capPush) else .capNone)
      (if c.dec then .wdClear else if c.tk then .wdTick else .wdHold)
      (if c.dec then (if c.pu then .outUpdate else .outPolicyHold) else if c.exp then .outOverride else .outHold)) := by
  rcases c with ⟨dec, trm, syn, pv, tk, exp, rst, pu⟩
  simp only at hr
  subst hr
  revert hc
  revert dec trm syn pv tk exp pu
  decide

/-- No two rows of one unit select one word. -/
theorem opTable_rows_disjoint :
    opTable.Pairwise (fun r q => r.op.opUnit = q.op.opUnit → r.bits &&& q.mask ≠ q.bits &&& r.mask) := by
  decide

end Sys2Proof
end

