-- ==== Sys2Proof/Laws/Operands.lean ====
section
/-! SUPPORT. Laws/Operands.lean: what the read primitives, the decode datapath and the decoder's action can answer. -/

namespace Sys2Proof.Machine

theorem decodeChannel_le_scale (p : Params) (a b : Nat) : decodeChannel p a b ≤ p.scale := by
  simp only [decodeChannel, clamp]
  omega

theorem State.bufRead_eq_some_iff (s : State) (k : Nat) (d : Nat) :
    s.bufRead k = some d ↔ s.buf[k]? = some d := Iff.rfl

/-- A channel's code is there exactly when both of its entries are. -/
theorem State.channelCode_eq_some_iff (s : State) (i : Nat) (c : Nat) :
    s.channelCode i = some c ↔
      ∃ a b, s.buf[2 + 2 * i]? = some a ∧ s.buf[3 + 2 * i]? = some b ∧ c = decodeChannel s.params a b := by
  simp only [State.channelCode, State.bufRead]
  split
  · rename_i a b ha hb
    simp [ha, hb, eq_comm]
  · rename_i h
    simp only [reduceCtorEq, false_iff, not_exists, not_and]
    intro a b ha hb
    exact absurd hb (h a b ha)

theorem State.channelCode_isSome (s : State) (i : Nat) (h : 3 + 2 * i < s.buf.length) :
    s.channelCode i = some (decodeChannel s.params (s.buf.getD (2 + 2 * i) 0) (s.buf.getD (3 + 2 * i) 0)) := by
  have h2 : 2 + 2 * i < s.buf.length := by omega
  rw [State.channelCode_eq_some_iff]
  exact ⟨_, _, List.getElem?_eq_getElem h2, List.getElem?_eq_getElem h,
    by simp [List.getD_eq_getElem?_getD, List.getElem?_eq_getElem h2, List.getElem?_eq_getElem h]⟩

/-- The codes of the first `n` channels, where their entries are there. -/
theorem State.channelCodes_eq (s : State) :
    ∀ n : Nat, 2 + 2 * n ≤ s.buf.length →
      s.channelCodes n = some ((List.range n).map (fun i =>
        decodeChannel s.params (s.buf.getD (2 + 2 * i) 0) (s.buf.getD (3 + 2 * i) 0)))
  | 0, _ => rfl
  | n + 1, h => by
    simp [State.channelCodes, s.channelCodes_eq n (by omega), s.channelCode_isSome n (by omega), List.range_succ]

/-- Whatever the codes are, there are `n` of them, each its channel's. -/
theorem State.channelCodes_some (s : State) :
    ∀ (n : Nat) (vec : List Nat), s.channelCodes n = some vec →
      vec.length = n ∧ ∀ i, i < n → vec[i]? = s.channelCode i
  | 0, vec, h => by
    simp only [State.channelCodes, Option.some.injEq] at h
    subst h
    simp
  | n + 1, vec, h => by
    simp only [State.channelCodes] at h
    split at h
    · rename_i vs code hvs hcode
      obtain ⟨hl, hi⟩ := s.channelCodes_some n vs hvs
      simp only [Option.some.injEq] at h
      subst h
      refine ⟨by simp [hl], fun i hlt => ?_⟩
      rcases Nat.lt_or_ge i n with hin | hin
      · rw [List.getElem?_append_left (by omega), hi i hin]
      · have : i = n := by omega
        subst this
        rw [List.getElem?_append_right (by omega), hcode, hl]
        simp
    · simp at h

/-- A buffer of at least `CAP` entries has a vector. -/
theorem State.decodeVector_eq (s : State) (h : s.params.cap ≤ s.buf.length) :
    s.decodeVector = some ((List.range s.params.nCh).map (fun i =>
      decodeChannel s.params (s.buf.getD (2 + 2 * i) 0) (s.buf.getD (3 + 2 * i) 0))) :=
  s.channelCodes_eq _ (by simpa [Params.cap, Nat.add_comm] using h)

theorem State.decodeVector_le_scale (s : State) (vec : List Nat) (h : s.decodeVector = some vec) :
    ∀ c ∈ vec, c ≤ s.params.scale := by
  obtain ⟨hl, hi⟩ := s.channelCodes_some _ _ h
  intro c hc
  obtain ⟨i, hlt, rfl⟩ := List.getElem_of_mem hc
  have := hi i (by omega)
  rw [List.getElem?_eq_getElem hlt, eq_comm, State.channelCode_eq_some_iff] at this
  obtain ⟨a, b, -, -, h⟩ := this
  rw [h]
  exact decodeChannel_le_scale _ _ _

/-! ### The decoder's action, by its conditions -/

theorem State.act_of_nil {s : State} (h : s.buf = []) : s.act = .idle := by
  simp [State.act, State.bufFront, h]

theorem State.act_of_cons {s : State} {d : Nat} {l : List Nat} (h : s.buf = d :: l) :
    s.act = if d < s.params.syncThr then .trim else if s.buf.length < s.params.cap then .wait else .decode := by
  simp [State.act, State.bufFront, h]

theorem State.act_idle_iff (s : State) : s.act = .idle ↔ s.buf = [] := by
  rcases h : s.buf with _ | ⟨d, l⟩
  · simp [State.act_of_nil h]
  · rw [State.act_of_cons h]
    grind

theorem State.act_trim_iff (s : State) :
    s.act = .trim ↔ ∃ d l, s.buf = d :: l ∧ d < s.params.syncThr := by
  rcases h : s.buf with _ | ⟨d, l⟩
  · simp [State.act_of_nil h]
  · rw [State.act_of_cons h]
    grind

theorem State.act_wait_iff (s : State) :
    s.act = .wait ↔ ∃ d l, s.buf = d :: l ∧ s.params.syncThr ≤ d ∧ s.buf.length < s.params.cap := by
  rcases h : s.buf with _ | ⟨d, l⟩
  · simp [State.act_of_nil h]
  · rw [State.act_of_cons h]
    grind

theorem State.act_decode_iff (s : State) :
    s.act = .decode ↔ ∃ d l, s.buf = d :: l ∧ s.params.syncThr ≤ d ∧ s.params.cap ≤ s.buf.length := by
  rcases h : s.buf with _ | ⟨d, l⟩
  · simp [State.act_of_nil h]
  · rw [State.act_of_cons h]
    grind

/-- A decode action finds a whole frame in the buffer. -/
theorem State.decodeVector_of_act_decode (s : State) (h : s.act = .decode) :
    s.decodeVector = some ((List.range s.params.nCh).map (fun i =>
      decodeChannel s.params (s.buf.getD (2 + 2 * i) 0) (s.buf.getD (3 + 2 * i) 0))) := by
  obtain ⟨_, _, -, -, hl⟩ := s.act_decode_iff.mp h
  exact s.decodeVector_eq hl

end Sys2Proof.Machine
end

