-- ==== Sys2Proof/Laws/State.lean ====
section
/-! SUPPORT. Laws/State.lean: what each named write of Machine/Ops.lean leaves in each field of the state, one lemma
per field per write, so that no later proof unfolds a record update. -/

namespace Sys2Proof.Machine

/-- The vector depends on the parameters and the buffer alone. -/
theorem State.channelCodes_congr {s t : State} (hp : t.params = s.params) (hb : t.buf = s.buf) :
    ∀ n, t.channelCodes n = s.channelCodes n
  | 0 => rfl
  | n + 1 => by
    simp only [State.channelCodes, State.channelCodes_congr hp hb n, State.channelCode, State.bufRead, hp, hb]

theorem State.decodeVector_congr {s t : State} (hp : t.params = s.params) (hb : t.buf = s.buf) :
    t.decodeVector = s.decodeVector := by
  simp only [State.decodeVector, hp, State.channelCodes_congr hp hb]

/-! ### `State.bufPush` -/

@[simp] theorem State.bufPush_params (s : State) (d : Nat) : (s.bufPush d).params = s.params := rfl
@[simp] theorem State.bufPush_policy (s : State) (d : Nat) : (s.bufPush d).policy = s.policy := rfl
@[simp] theorem State.bufPush_buf (s : State) (d : Nat) : (s.bufPush d).buf = s.buf ++ [d] := rfl
@[simp] theorem State.bufPush_ch (s : State) (d : Nat) : (s.bufPush d).ch = s.ch := rfl
@[simp] theorem State.bufPush_chValid (s : State) (d : Nat) : (s.bufPush d).chValid = s.chValid := rfl
@[simp] theorem State.bufPush_cmdSteer (s : State) (d : Nat) : (s.bufPush d).cmdSteer = s.cmdSteer := rfl
@[simp] theorem State.bufPush_cmdThr (s : State) (d : Nat) : (s.bufPush d).cmdThr = s.cmdThr := rfl
@[simp] theorem State.bufPush_wd (s : State) (d : Nat) : (s.bufPush d).wd = s.wd := rfl
@[simp] theorem State.bufPush_ind (s : State) (d : Nat) : (s.bufPush d).ind = s.ind := rfl
@[simp] theorem State.bufPush_outs (s : State) (d : Nat) : (s.bufPush d).outs = s.outs := rfl
@[simp] theorem State.bufPush_pending (s : State) (d : Nat) : (s.bufPush d).pending = s.pending := rfl
@[simp] theorem State.bufPush_cycle (s : State) (d : Nat) : (s.bufPush d).cycle = s.cycle := rfl
@[simp] theorem State.bufPush_input (s : State) (d : Nat) : (s.bufPush d).input = s.input := rfl
@[simp] theorem State.bufPush_capDur (s : State) (d : Nat) : (s.bufPush d).capDur = s.capDur := rfl

/-! ### `State.bufPop` -/

@[simp] theorem State.bufPop_params (s : State) : (s.bufPop).params = s.params := rfl
@[simp] theorem State.bufPop_policy (s : State) : (s.bufPop).policy = s.policy := rfl
@[simp] theorem State.bufPop_buf (s : State) : (s.bufPop).buf = s.buf.tail := rfl
@[simp] theorem State.bufPop_ch (s : State) : (s.bufPop).ch = s.ch := rfl
@[simp] theorem State.bufPop_chValid (s : State) : (s.bufPop).chValid = s.chValid := rfl
@[simp] theorem State.bufPop_cmdSteer (s : State) : (s.bufPop).cmdSteer = s.cmdSteer := rfl
@[simp] theorem State.bufPop_cmdThr (s : State) : (s.bufPop).cmdThr = s.cmdThr := rfl
@[simp] theorem State.bufPop_wd (s : State) : (s.bufPop).wd = s.wd := rfl
@[simp] theorem State.bufPop_ind (s : State) : (s.bufPop).ind = s.ind := rfl
@[simp] theorem State.bufPop_outs (s : State) : (s.bufPop).outs = s.outs := rfl
@[simp] theorem State.bufPop_pending (s : State) : (s.bufPop).pending = s.pending := rfl
@[simp] theorem State.bufPop_cycle (s : State) : (s.bufPop).cycle = s.cycle := rfl
@[simp] theorem State.bufPop_input (s : State) : (s.bufPop).input = s.input := rfl
@[simp] theorem State.bufPop_capDur (s : State) : (s.bufPop).capDur = s.capDur := rfl

/-! ### `State.bufClear` -/

@[simp] theorem State.bufClear_params (s : State) : (s.bufClear).params = s.params := rfl
@[simp] theorem State.bufClear_policy (s : State) : (s.bufClear).policy = s.policy := rfl
@[simp] theorem State.bufClear_buf (s : State) : (s.bufClear).buf = [] := rfl
@[simp] theorem State.bufClear_ch (s : State) : (s.bufClear).ch = s.ch := rfl
@[simp] theorem State.bufClear_chValid (s : State) : (s.bufClear).chValid = s.chValid := rfl
@[simp] theorem State.bufClear_cmdSteer (s : State) : (s.bufClear).cmdSteer = s.cmdSteer := rfl
@[simp] theorem State.bufClear_cmdThr (s : State) : (s.bufClear).cmdThr = s.cmdThr := rfl
@[simp] theorem State.bufClear_wd (s : State) : (s.bufClear).wd = s.wd := rfl
@[simp] theorem State.bufClear_ind (s : State) : (s.bufClear).ind = s.ind := rfl
@[simp] theorem State.bufClear_outs (s : State) : (s.bufClear).outs = s.outs := rfl
@[simp] theorem State.bufClear_pending (s : State) : (s.bufClear).pending = s.pending := rfl
@[simp] theorem State.bufClear_cycle (s : State) : (s.bufClear).cycle = s.cycle := rfl
@[simp] theorem State.bufClear_input (s : State) : (s.bufClear).input = s.input := rfl
@[simp] theorem State.bufClear_capDur (s : State) : (s.bufClear).capDur = s.capDur := rfl

/-! ### `State.setChannels` -/

@[simp] theorem State.setChannels_params (s : State) (vec : List Nat) : (s.setChannels vec).params = s.params := rfl
@[simp] theorem State.setChannels_policy (s : State) (vec : List Nat) : (s.setChannels vec).policy = s.policy := rfl
@[simp] theorem State.setChannels_buf (s : State) (vec : List Nat) : (s.setChannels vec).buf = s.buf := rfl
@[simp] theorem State.setChannels_ch (s : State) (vec : List Nat) : (s.setChannels vec).ch = vec := rfl
@[simp] theorem State.setChannels_chValid (s : State) (vec : List Nat) : (s.setChannels vec).chValid = true := rfl
@[simp] theorem State.setChannels_cmdSteer (s : State) (vec : List Nat) : (s.setChannels vec).cmdSteer = s.cmdSteer := rfl
@[simp] theorem State.setChannels_cmdThr (s : State) (vec : List Nat) : (s.setChannels vec).cmdThr = s.cmdThr := rfl
@[simp] theorem State.setChannels_wd (s : State) (vec : List Nat) : (s.setChannels vec).wd = s.wd := rfl
@[simp] theorem State.setChannels_ind (s : State) (vec : List Nat) : (s.setChannels vec).ind = s.ind := rfl
@[simp] theorem State.setChannels_outs (s : State) (vec : List Nat) : (s.setChannels vec).outs = s.outs := rfl
@[simp] theorem State.setChannels_pending (s : State) (vec : List Nat) : (s.setChannels vec).pending = s.pending := rfl
@[simp] theorem State.setChannels_cycle (s : State) (vec : List Nat) : (s.setChannels vec).cycle = s.cycle := rfl
@[simp] theorem State.setChannels_input (s : State) (vec : List Nat) : (s.setChannels vec).input = s.input := rfl
@[simp] theorem State.setChannels_capDur (s : State) (vec : List Nat) : (s.setChannels vec).capDur = s.capDur := rfl

/-! ### `State.setWd` -/

@[simp] theorem State.setWd_params (s : State) (n : Nat) : (s.setWd n).params = s.params := rfl
@[simp] theorem State.setWd_policy (s : State) (n : Nat) : (s.setWd n).policy = s.policy := rfl
@[simp] theorem State.setWd_buf (s : State) (n : Nat) : (s.setWd n).buf = s.buf := rfl
@[simp] theorem State.setWd_ch (s : State) (n : Nat) : (s.setWd n).ch = s.ch := rfl
@[simp] theorem State.setWd_chValid (s : State) (n : Nat) : (s.setWd n).chValid = s.chValid := rfl
@[simp] theorem State.setWd_cmdSteer (s : State) (n : Nat) : (s.setWd n).cmdSteer = s.cmdSteer := rfl
@[simp] theorem State.setWd_cmdThr (s : State) (n : Nat) : (s.setWd n).cmdThr = s.cmdThr := rfl
@[simp] theorem State.setWd_wd (s : State) (n : Nat) : (s.setWd n).wd = n := rfl
@[simp] theorem State.setWd_ind (s : State) (n : Nat) : (s.setWd n).ind = s.ind := rfl
@[simp] theorem State.setWd_outs (s : State) (n : Nat) : (s.setWd n).outs = s.outs := rfl
@[simp] theorem State.setWd_pending (s : State) (n : Nat) : (s.setWd n).pending = s.pending := rfl
@[simp] theorem State.setWd_cycle (s : State) (n : Nat) : (s.setWd n).cycle = s.cycle := rfl
@[simp] theorem State.setWd_input (s : State) (n : Nat) : (s.setWd n).input = s.input := rfl
@[simp] theorem State.setWd_capDur (s : State) (n : Nat) : (s.setWd n).capDur = s.capDur := rfl
@[simp] theorem State.setWd_bufFront (s : State) (n : Nat) : (s.setWd n).bufFront = s.bufFront := rfl
@[simp] theorem State.setWd_decodeVector (s : State) (n : Nat) : (s.setWd n).decodeVector = s.decodeVector :=
  State.decodeVector_congr rfl rfl

/-! ### `State.setCommand` -/

@[simp] theorem State.setCommand_params (s : State) (steer : Nat) (thr : Int) : (s.setCommand steer thr).params = s.params := rfl
@[simp] theorem State.setCommand_policy (s : State) (steer : Nat) (thr : Int) : (s.setCommand steer thr).policy = s.policy := rfl
@[simp] theorem State.setCommand_buf (s : State) (steer : Nat) (thr : Int) : (s.setCommand steer thr).buf = s.buf := rfl
@[simp] theorem State.setCommand_ch (s : State) (steer : Nat) (thr : Int) : (s.setCommand steer thr).ch = s.ch := rfl
@[simp] theorem State.setCommand_chValid (s : State) (steer : Nat) (thr : Int) : (s.setCommand steer thr).chValid = s.chValid := rfl
@[simp] theorem State.setCommand_cmdSteer (s : State) (steer : Nat) (thr : Int) : (s.setCommand steer thr).cmdSteer = steer := rfl
@[simp] theorem State.setCommand_cmdThr (s : State) (steer : Nat) (thr : Int) : (s.setCommand steer thr).cmdThr = thr := rfl
@[simp] theorem State.setCommand_wd (s : State) (steer : Nat) (thr : Int) : (s.setCommand steer thr).wd = s.wd := rfl
@[simp] theorem State.setCommand_ind (s : State) (steer : Nat) (thr : Int) : (s.setCommand steer thr).ind = s.ind := rfl
@[simp] theorem State.setCommand_outs (s : State) (steer : Nat) (thr : Int) : (s.setCommand steer thr).outs = s.outs := rfl
@[simp] theorem State.setCommand_pending (s : State) (steer : Nat) (thr : Int) : (s.setCommand steer thr).pending = s.pending := rfl
@[simp] theorem State.setCommand_cycle (s : State) (steer : Nat) (thr : Int) : (s.setCommand steer thr).cycle = s.cycle := rfl
@[simp] theorem State.setCommand_input (s : State) (steer : Nat) (thr : Int) : (s.setCommand steer thr).input = s.input := rfl
@[simp] theorem State.setCommand_capDur (s : State) (steer : Nat) (thr : Int) : (s.setCommand steer thr).capDur = s.capDur := rfl
@[simp] theorem State.setCommand_bufFront (s : State) (steer : Nat) (thr : Int) : (s.setCommand steer thr).bufFront = s.bufFront := rfl
@[simp] theorem State.setCommand_decodeVector (s : State) (steer : Nat) (thr : Int) : (s.setCommand steer thr).decodeVector = s.decodeVector :=
  State.decodeVector_congr rfl rfl

/-! ### `State.setInd` -/

@[simp] theorem State.setInd_params (s : State) (i : Indicator) : (s.setInd i).params = s.params := rfl
@[simp] theorem State.setInd_policy (s : State) (i : Indicator) : (s.setInd i).policy = s.policy := rfl
@[simp] theorem State.setInd_buf (s : State) (i : Indicator) : (s.setInd i).buf = s.buf := rfl
@[simp] theorem State.setInd_ch (s : State) (i : Indicator) : (s.setInd i).ch = s.ch := rfl
@[simp] theorem State.setInd_chValid (s : State) (i : Indicator) : (s.setInd i).chValid = s.chValid := rfl
@[simp] theorem State.setInd_cmdSteer (s : State) (i : Indicator) : (s.setInd i).cmdSteer = s.cmdSteer := rfl
@[simp] theorem State.setInd_cmdThr (s : State) (i : Indicator) : (s.setInd i).cmdThr = s.cmdThr := rfl
@[simp] theorem State.setInd_wd (s : State) (i : Indicator) : (s.setInd i).wd = s.wd := rfl
@[simp] theorem State.setInd_ind (s : State) (i : Indicator) : (s.setInd i).ind = i := rfl
@[simp] theorem State.setInd_outs (s : State) (i : Indicator) : (s.setInd i).outs = s.outs := rfl
@[simp] theorem State.setInd_pending (s : State) (i : Indicator) : (s.setInd i).pending = s.pending := rfl
@[simp] theorem State.setInd_cycle (s : State) (i : Indicator) : (s.setInd i).cycle = s.cycle := rfl
@[simp] theorem State.setInd_input (s : State) (i : Indicator) : (s.setInd i).input = s.input := rfl
@[simp] theorem State.setInd_capDur (s : State) (i : Indicator) : (s.setInd i).capDur = s.capDur := rfl
@[simp] theorem State.setInd_bufFront (s : State) (i : Indicator) : (s.setInd i).bufFront = s.bufFront := rfl
@[simp] theorem State.setInd_decodeVector (s : State) (i : Indicator) : (s.setInd i).decodeVector = s.decodeVector :=
  State.decodeVector_congr rfl rfl

/-! ### `State.driveDecoder` -/

@[simp] theorem State.driveDecoder_params (s : State) (fire : Bool) (vec : List Nat) : (s.driveDecoder fire vec).params = s.params := rfl
@[simp] theorem State.driveDecoder_policy (s : State) (fire : Bool) (vec : List Nat) : (s.driveDecoder fire vec).policy = s.policy := rfl
@[simp] theorem State.driveDecoder_buf (s : State) (fire : Bool) (vec : List Nat) : (s.driveDecoder fire vec).buf = s.buf := rfl
@[simp] theorem State.driveDecoder_ch (s : State) (fire : Bool) (vec : List Nat) : (s.driveDecoder fire vec).ch = s.ch := rfl
@[simp] theorem State.driveDecoder_chValid (s : State) (fire : Bool) (vec : List Nat) : (s.driveDecoder fire vec).chValid = s.chValid := rfl
@[simp] theorem State.driveDecoder_cmdSteer (s : State) (fire : Bool) (vec : List Nat) : (s.driveDecoder fire vec).cmdSteer = s.cmdSteer := rfl
@[simp] theorem State.driveDecoder_cmdThr (s : State) (fire : Bool) (vec : List Nat) : (s.driveDecoder fire vec).cmdThr = s.cmdThr := rfl
@[simp] theorem State.driveDecoder_wd (s : State) (fire : Bool) (vec : List Nat) : (s.driveDecoder fire vec).wd = s.wd := rfl
@[simp] theorem State.driveDecoder_ind (s : State) (fire : Bool) (vec : List Nat) : (s.driveDecoder fire vec).ind = s.ind := rfl
@[simp] theorem State.driveDecoder_outs (s : State) (fire : Bool) (vec : List Nat) : (s.driveDecoder fire vec).outs = { s.outs with decFire := fire, capPause := fire, decVec := vec } := rfl
@[simp] theorem State.driveDecoder_pending (s : State) (fire : Bool) (vec : List Nat) : (s.driveDecoder fire vec).pending = s.pending := rfl
@[simp] theorem State.driveDecoder_cycle (s : State) (fire : Bool) (vec : List Nat) : (s.driveDecoder fire vec).cycle = s.cycle := rfl
@[simp] theorem State.driveDecoder_input (s : State) (fire : Bool) (vec : List Nat) : (s.driveDecoder fire vec).input = s.input := rfl
@[simp] theorem State.driveDecoder_capDur (s : State) (fire : Bool) (vec : List Nat) : (s.driveDecoder fire vec).capDur = s.capDur := rfl
@[simp] theorem State.driveDecoder_bufFront (s : State) (fire : Bool) (vec : List Nat) : (s.driveDecoder fire vec).bufFront = s.bufFront := rfl
@[simp] theorem State.driveDecoder_decodeVector (s : State) (fire : Bool) (vec : List Nat) : (s.driveDecoder fire vec).decodeVector = s.decodeVector :=
  State.decodeVector_congr rfl rfl

/-! ### `State.driveNoDecode` -/

@[simp] theorem State.driveNoDecode_params (s : State) : (s.driveNoDecode).params = s.params := rfl
@[simp] theorem State.driveNoDecode_policy (s : State) : (s.driveNoDecode).policy = s.policy := rfl
@[simp] theorem State.driveNoDecode_buf (s : State) : (s.driveNoDecode).buf = s.buf := rfl
@[simp] theorem State.driveNoDecode_ch (s : State) : (s.driveNoDecode).ch = s.ch := rfl
@[simp] theorem State.driveNoDecode_chValid (s : State) : (s.driveNoDecode).chValid = s.chValid := rfl
@[simp] theorem State.driveNoDecode_cmdSteer (s : State) : (s.driveNoDecode).cmdSteer = s.cmdSteer := rfl
@[simp] theorem State.driveNoDecode_cmdThr (s : State) : (s.driveNoDecode).cmdThr = s.cmdThr := rfl
@[simp] theorem State.driveNoDecode_wd (s : State) : (s.driveNoDecode).wd = s.wd := rfl
@[simp] theorem State.driveNoDecode_ind (s : State) : (s.driveNoDecode).ind = s.ind := rfl
@[simp] theorem State.driveNoDecode_outs (s : State) : (s.driveNoDecode).outs = { s.outs with decFire := false, capPause := false, decVec := List.replicate s.params.nCh 0 } := rfl
@[simp] theorem State.driveNoDecode_pending (s : State) : (s.driveNoDecode).pending = s.pending := rfl
@[simp] theorem State.driveNoDecode_cycle (s : State) : (s.driveNoDecode).cycle = s.cycle := rfl
@[simp] theorem State.driveNoDecode_input (s : State) : (s.driveNoDecode).input = s.input := rfl
@[simp] theorem State.driveNoDecode_capDur (s : State) : (s.driveNoDecode).capDur = s.capDur := rfl
@[simp] theorem State.driveNoDecode_bufFront (s : State) : (s.driveNoDecode).bufFront = s.bufFront := rfl
@[simp] theorem State.driveNoDecode_decodeVector (s : State) : (s.driveNoDecode).decodeVector = s.decodeVector :=
  State.decodeVector_congr rfl rfl

/-! ### `State.driveStrobes` -/

@[simp] theorem State.driveStrobes_params (s : State) (aliveStb fsStb : Bool) : (s.driveStrobes aliveStb fsStb).params = s.params := rfl
@[simp] theorem State.driveStrobes_policy (s : State) (aliveStb fsStb : Bool) : (s.driveStrobes aliveStb fsStb).policy = s.policy := rfl
@[simp] theorem State.driveStrobes_buf (s : State) (aliveStb fsStb : Bool) : (s.driveStrobes aliveStb fsStb).buf = s.buf := rfl
@[simp] theorem State.driveStrobes_ch (s : State) (aliveStb fsStb : Bool) : (s.driveStrobes aliveStb fsStb).ch = s.ch := rfl
@[simp] theorem State.driveStrobes_chValid (s : State) (aliveStb fsStb : Bool) : (s.driveStrobes aliveStb fsStb).chValid = s.chValid := rfl
@[simp] theorem State.driveStrobes_cmdSteer (s : State) (aliveStb fsStb : Bool) : (s.driveStrobes aliveStb fsStb).cmdSteer = s.cmdSteer := rfl
@[simp] theorem State.driveStrobes_cmdThr (s : State) (aliveStb fsStb : Bool) : (s.driveStrobes aliveStb fsStb).cmdThr = s.cmdThr := rfl
@[simp] theorem State.driveStrobes_wd (s : State) (aliveStb fsStb : Bool) : (s.driveStrobes aliveStb fsStb).wd = s.wd := rfl
@[simp] theorem State.driveStrobes_ind (s : State) (aliveStb fsStb : Bool) : (s.driveStrobes aliveStb fsStb).ind = s.ind := rfl
@[simp] theorem State.driveStrobes_outs (s : State) (aliveStb fsStb : Bool) : (s.driveStrobes aliveStb fsStb).outs = { s.outs with indAliveStb := aliveStb, indFsStb := fsStb } := rfl
@[simp] theorem State.driveStrobes_pending (s : State) (aliveStb fsStb : Bool) : (s.driveStrobes aliveStb fsStb).pending = s.pending := rfl
@[simp] theorem State.driveStrobes_cycle (s : State) (aliveStb fsStb : Bool) : (s.driveStrobes aliveStb fsStb).cycle = s.cycle := rfl
@[simp] theorem State.driveStrobes_input (s : State) (aliveStb fsStb : Bool) : (s.driveStrobes aliveStb fsStb).input = s.input := rfl
@[simp] theorem State.driveStrobes_capDur (s : State) (aliveStb fsStb : Bool) : (s.driveStrobes aliveStb fsStb).capDur = s.capDur := rfl
@[simp] theorem State.driveStrobes_bufFront (s : State) (aliveStb fsStb : Bool) : (s.driveStrobes aliveStb fsStb).bufFront = s.bufFront := rfl
@[simp] theorem State.driveStrobes_decodeVector (s : State) (aliveStb fsStb : Bool) : (s.driveStrobes aliveStb fsStb).decodeVector = s.decodeVector :=
  State.decodeVector_congr rfl rfl

/-! ### `State.enterFailsafe` -/

@[simp] theorem State.enterFailsafe_params (s : State) : (s.enterFailsafe).params = s.params := rfl
@[simp] theorem State.enterFailsafe_policy (s : State) : (s.enterFailsafe).policy = s.policy := rfl
@[simp] theorem State.enterFailsafe_buf (s : State) : (s.enterFailsafe).buf = s.buf := rfl
@[simp] theorem State.enterFailsafe_ch (s : State) : (s.enterFailsafe).ch = s.ch := rfl
@[simp] theorem State.enterFailsafe_chValid (s : State) : (s.enterFailsafe).chValid = s.chValid := rfl
@[simp] theorem State.enterFailsafe_cmdSteer (s : State) : (s.enterFailsafe).cmdSteer = s.params.neutralSteer := rfl
@[simp] theorem State.enterFailsafe_cmdThr (s : State) : (s.enterFailsafe).cmdThr = s.params.neutralThr := rfl
@[simp] theorem State.enterFailsafe_wd (s : State) : (s.enterFailsafe).wd = s.wd := rfl
@[simp] theorem State.enterFailsafe_ind (s : State) : (s.enterFailsafe).ind = .failsafe := rfl
@[simp] theorem State.enterFailsafe_outs (s : State) : (s.enterFailsafe).outs = { s.outs with indAliveStb := false, indFsStb := true } := rfl
@[simp] theorem State.enterFailsafe_pending (s : State) : (s.enterFailsafe).pending = s.pending := rfl
@[simp] theorem State.enterFailsafe_cycle (s : State) : (s.enterFailsafe).cycle = s.cycle := rfl
@[simp] theorem State.enterFailsafe_input (s : State) : (s.enterFailsafe).input = s.input := rfl
@[simp] theorem State.enterFailsafe_capDur (s : State) : (s.enterFailsafe).capDur = s.capDur := rfl
@[simp] theorem State.enterFailsafe_bufFront (s : State) : (s.enterFailsafe).bufFront = s.bufFront := rfl
@[simp] theorem State.enterFailsafe_decodeVector (s : State) : (s.enterFailsafe).decodeVector = s.decodeVector :=
  State.decodeVector_congr rfl rfl

/-! ### `State.signalAlive` -/

@[simp] theorem State.signalAlive_params (s : State) : (s.signalAlive).params = s.params := rfl
@[simp] theorem State.signalAlive_policy (s : State) : (s.signalAlive).policy = s.policy := rfl
@[simp] theorem State.signalAlive_buf (s : State) : (s.signalAlive).buf = s.buf := rfl
@[simp] theorem State.signalAlive_ch (s : State) : (s.signalAlive).ch = s.ch := rfl
@[simp] theorem State.signalAlive_chValid (s : State) : (s.signalAlive).chValid = s.chValid := rfl
@[simp] theorem State.signalAlive_cmdSteer (s : State) : (s.signalAlive).cmdSteer = s.cmdSteer := rfl
@[simp] theorem State.signalAlive_cmdThr (s : State) : (s.signalAlive).cmdThr = s.cmdThr := rfl
@[simp] theorem State.signalAlive_wd (s : State) : (s.signalAlive).wd = s.wd := rfl
@[simp] theorem State.signalAlive_ind (s : State) : (s.signalAlive).ind = .alive := rfl
@[simp] theorem State.signalAlive_outs (s : State) : (s.signalAlive).outs = { s.outs with indAliveStb := true, indFsStb := false } := rfl
@[simp] theorem State.signalAlive_pending (s : State) : (s.signalAlive).pending = s.pending := rfl
@[simp] theorem State.signalAlive_cycle (s : State) : (s.signalAlive).cycle = s.cycle := rfl
@[simp] theorem State.signalAlive_input (s : State) : (s.signalAlive).input = s.input := rfl
@[simp] theorem State.signalAlive_capDur (s : State) : (s.signalAlive).capDur = s.capDur := rfl
@[simp] theorem State.signalAlive_bufFront (s : State) : (s.signalAlive).bufFront = s.bufFront := rfl
@[simp] theorem State.signalAlive_decodeVector (s : State) : (s.signalAlive).decodeVector = s.decodeVector :=
  State.decodeVector_congr rfl rfl

/-! ### `State.loadReset` -/

@[simp] theorem State.loadReset_params (s : State) : (s.loadReset).params = s.params := rfl
@[simp] theorem State.loadReset_policy (s : State) : (s.loadReset).policy = s.policy := rfl
@[simp] theorem State.loadReset_buf (s : State) : (s.loadReset).buf = [] := rfl
@[simp] theorem State.loadReset_ch (s : State) : (s.loadReset).ch = List.replicate s.params.nCh 0 := rfl
@[simp] theorem State.loadReset_chValid (s : State) : (s.loadReset).chValid = false := rfl
@[simp] theorem State.loadReset_cmdSteer (s : State) : (s.loadReset).cmdSteer = s.params.neutralSteer := rfl
@[simp] theorem State.loadReset_cmdThr (s : State) : (s.loadReset).cmdThr = s.params.neutralThr := rfl
@[simp] theorem State.loadReset_wd (s : State) : (s.loadReset).wd = 0 := rfl
@[simp] theorem State.loadReset_ind (s : State) : (s.loadReset).ind = .none := rfl
@[simp] theorem State.loadReset_outs (s : State) : (s.loadReset).outs = .quiet s.params := rfl
@[simp] theorem State.loadReset_pending (s : State) : (s.loadReset).pending = s.pending := rfl
@[simp] theorem State.loadReset_cycle (s : State) : (s.loadReset).cycle = s.cycle := rfl
@[simp] theorem State.loadReset_input (s : State) : (s.loadReset).input = s.input := rfl
@[simp] theorem State.loadReset_capDur (s : State) : (s.loadReset).capDur = s.capDur := rfl

/-! ### `State.nextCycle` -/

@[simp] theorem State.nextCycle_params (s : State) : (s.nextCycle).params = s.params := rfl
@[simp] theorem State.nextCycle_policy (s : State) : (s.nextCycle).policy = s.policy := rfl
@[simp] theorem State.nextCycle_buf (s : State) : (s.nextCycle).buf = s.buf := rfl
@[simp] theorem State.nextCycle_ch (s : State) : (s.nextCycle).ch = s.ch := rfl
@[simp] theorem State.nextCycle_chValid (s : State) : (s.nextCycle).chValid = s.chValid := rfl
@[simp] theorem State.nextCycle_cmdSteer (s : State) : (s.nextCycle).cmdSteer = s.cmdSteer := rfl
@[simp] theorem State.nextCycle_cmdThr (s : State) : (s.nextCycle).cmdThr = s.cmdThr := rfl
@[simp] theorem State.nextCycle_wd (s : State) : (s.nextCycle).wd = s.wd := rfl
@[simp] theorem State.nextCycle_ind (s : State) : (s.nextCycle).ind = s.ind := rfl
@[simp] theorem State.nextCycle_outs (s : State) : (s.nextCycle).outs = s.outs := rfl
@[simp] theorem State.nextCycle_pending (s : State) : (s.nextCycle).pending = s.pending.tail := rfl
@[simp] theorem State.nextCycle_cycle (s : State) : (s.nextCycle).cycle = s.cycle + 1 := rfl

end Sys2Proof.Machine
end

