-- ==== Sys2Proof/Laws/Ops.lean ====
section
/-! SUPPORT. Laws/Ops.lean: every write of the PulseBuffer keeps its form, and what reading an entry gives after it. -/

namespace Sys2Proof.Machine

/-! ### The form of the memory -/

theorem Memory.wf_nil (p : Params) : Memory.wf p [] := by simp [Memory.wf]

theorem State.bufPush_wf (s : State) (d : Nat) (h : Memory.wf s.params s.buf)
    (hl : s.buf.length < s.params.cap) (hd : d < 2 ^ s.params.durW) :
    Memory.wf s.params (s.bufPush d).buf := by
  refine ⟨by simpa using hl, fun x hx => ?_⟩
  simp only [State.bufPush_buf, List.mem_append, List.mem_singleton] at hx
  rcases hx with hx | rfl
  · exact h.2 x hx
  · exact hd

theorem State.bufPop_wf (s : State) (h : Memory.wf s.params s.buf) : Memory.wf s.params s.bufPop.buf :=
  ⟨by have := h.1; simp; omega, fun x hx => h.2 x (List.mem_of_mem_tail hx)⟩

theorem State.bufClear_wf (s : State) : Memory.wf s.params s.bufClear.buf := Memory.wf_nil _

theorem State.resetWith_wf (p : Params) (q : Policy) : Memory.wf p (State.resetWith p q).buf := Memory.wf_nil _

theorem State.loadReset_wf (s : State) : Memory.wf s.params s.loadReset.buf := Memory.wf_nil _

theorem State.reset_wf : Memory.wf State.reset.params State.reset.buf := Memory.wf_nil _

theorem State.capDur_lt (s : State) : s.capDur < 2 ^ s.params.durW :=
  Nat.mod_lt _ (Nat.two_pow_pos _)

/-! ### Reading an entry after a write -/

/-- A push adds one entry behind all others and leaves those as they are. -/
theorem State.bufRead_bufPush (s : State) (d : Nat) (k : Nat) :
    (s.bufPush d).bufRead k = if k = s.buf.length then some d else s.bufRead k := by
  simp only [State.bufRead, State.bufPush_buf]
  split
  · rename_i h
    simp [h]
  · rename_i h
    rcases Nat.lt_or_ge k s.buf.length with hk | hk
    · exact List.getElem?_append_left hk
    · rw [List.getElem?_append_right hk, List.getElem?_eq_none hk]
      simp
      omega

/-- A pop moves every entry one place forward. -/
theorem State.bufRead_bufPop (s : State) (k : Nat) : s.bufPop.bufRead k = s.bufRead (k + 1) := by
  rcases h : s.buf with _ | ⟨d, l⟩ <;> simp [State.bufRead, h]

/-- A clear leaves no entry. -/
theorem State.bufRead_bufClear (s : State) (k : Nat) : s.bufClear.bufRead k = none := by simp [State.bufRead]

/-- A write of anything but the buffer leaves every entry as it is. -/
theorem State.bufRead_of_buf_eq (s t : State) (h : t.buf = s.buf) (k : Nat) : t.bufRead k = s.bufRead k := by
  simp [State.bufRead, h]

end Sys2Proof.Machine
end

