-- ==== Sys2Proof/Laws/Exec.lean ====
section
/-! SUPPORT. Laws/Exec.lean: of each meaning that can stop, everything a next state of it says; and of each meaning,
what one more look at it would unfold. -/

namespace Sys2Proof.Machine

theorem execDecTrim_next {s t : State} (h : execDecTrim s = .next t) :
    s.buf ≠ [] ∧ t = s.bufPop.driveNoDecode := by
  simp only [execDecTrim] at h
  split at h
  · rename_i d hd
    refine ⟨fun hb => ?_, by simpa using h.symm⟩
    simp [State.bufFront, hb] at hd
  · simp at h

theorem execDecDecode_next {s t : State} (h : execDecDecode s = .next t) :
    ∃ vec, s.decodeVector = some vec ∧ t = (s.setChannels vec).bufClear.driveDecoder true vec := by
  simp only [execDecDecode] at h
  split at h
  · rename_i vec hv
    exact ⟨vec, hv, by simpa using h.symm⟩
  · simp at h

theorem execCapPush_next {s t : State} (h : execCapPush s = .next t) :
    s.buf.length < s.params.cap ∧ t = s.bufPush s.capDur := by
  simp only [execCapPush] at h
  split at h
  · rename_i hl
    exact ⟨hl, by simpa using h.symm⟩
  · simp at h

theorem execOutUpdate_next {s t : State} (h : execOutUpdate s = .next t) :
    ∃ steer thr, s.policyAnswer = some (.update steer thr) ∧ t = (s.setCommand steer thr).signalAlive := by
  simp only [execOutUpdate] at h
  split at h
  · rename_i steer thr ha
    exact ⟨steer, thr, ha, by simpa using h.symm⟩
  · simp at h

/-- What a part of a cycle does after another: both go on, and nothing else answers a next state. -/
theorem andThen_next {o : Host.Outcome State Fault Refusal} {f : State → Host.Outcome State Fault Refusal} {t : State}
    (h : andThen o f = .next t) : ∃ s, o = .next s ∧ f s = .next t := by
  cases o with
  | next s => exact ⟨s, rfl, h⟩
  | fault r => simp [andThen] at h
  | refused r => simp [andThen] at h

@[simp] theorem andThen_next_left (s : State) (f : State → Host.Outcome State Fault Refusal) :
    andThen (.next s) f = f s := rfl

end Sys2Proof.Machine
end

