-- ==== Sys2Proof/Laws/PerInstr.lean ====
section
/-! SUPPORT. Laws/PerInstr.lean: the statements made per operation. -/

namespace Sys2Proof.Laws

/-- Every legal condition word that carries an operation's pattern is decoded, by the operation's unit, to that
operation: the don't-care bits are free, and no other row of the unit answers (30_encoding.md R97). -/
def WordRoundTrip.Statement (i : Instr) : Prop :=
  ∀ fill : ConditionWord, legalWord (encode i fill) = true → decodeUnit i.opUnit (encode i fill) = some i

theorem WordRoundTrip.reset : WordRoundTrip.Statement .reset := by unfold WordRoundTrip.Statement; decide

theorem WordRoundTrip.decIdle : WordRoundTrip.Statement .decIdle := by unfold WordRoundTrip.Statement; decide

theorem WordRoundTrip.decTrim : WordRoundTrip.Statement .decTrim := by unfold WordRoundTrip.Statement; decide

theorem WordRoundTrip.decWait : WordRoundTrip.Statement .decWait := by unfold WordRoundTrip.Statement; decide

theorem WordRoundTrip.decDecode : WordRoundTrip.Statement .decDecode := by unfold WordRoundTrip.Statement; decide

theorem WordRoundTrip.capNone : WordRoundTrip.Statement .capNone := by unfold WordRoundTrip.Statement; decide

theorem WordRoundTrip.capPush : WordRoundTrip.Statement .capPush := by unfold WordRoundTrip.Statement; decide

theorem WordRoundTrip.capDrop : WordRoundTrip.Statement .capDrop := by unfold WordRoundTrip.Statement; decide

theorem WordRoundTrip.wdClear : WordRoundTrip.Statement .wdClear := by unfold WordRoundTrip.Statement; decide

theorem WordRoundTrip.wdTick : WordRoundTrip.Statement .wdTick := by unfold WordRoundTrip.Statement; decide

theorem WordRoundTrip.wdHold : WordRoundTrip.Statement .wdHold := by unfold WordRoundTrip.Statement; decide

theorem WordRoundTrip.outUpdate : WordRoundTrip.Statement .outUpdate := by unfold WordRoundTrip.Statement; decide

theorem WordRoundTrip.outPolicyHold : WordRoundTrip.Statement .outPolicyHold := by unfold WordRoundTrip.Statement; decide

theorem WordRoundTrip.outOverride : WordRoundTrip.Statement .outOverride := by unfold WordRoundTrip.Statement; decide

theorem WordRoundTrip.outHold : WordRoundTrip.Statement .outHold := by unfold WordRoundTrip.Statement; decide

end Sys2Proof.Laws
end

