-- ==== Sys2Proof/Laws/Step.lean ====
section
/-! SUPPORT. Laws/Step.lean: what a step of a block that runs is, and what a step that answers needed. -/

namespace Sys2Proof.Machine

theorem step_of_ready {s : State} (h : s.Ready) : step s = runCycle s := by
  simp only [step, cycle]
  rw [if_pos h.1, if_pos h.2]

theorem ready_of_step_next {s t : State} (h : step s = .next t) : s.Ready := by
  simp only [step, cycle] at h
  split at h
  · rename_i he
    split at h
    · rename_i hl
      exact ⟨he, hl⟩
    · simp at h
  · simp at h

/-- What a cycle does with what its condition word decodes to. -/
theorem runCycle_of_decode {s : State} {b : Bundle} (h : decode s.conditionWord = .ok b) :
    runCycle s = andThen (runBundle b s) (fun t => .next t.nextCycle) := by
  simp [runCycle, h]

/-- The condition word's bits come from the state one by one. -/
theorem State.conditionBits_check (s : State) : s.conditionBits.check = none := by
  rw [CwBits.check_none_iff]
  cases h : s.act <;> simp [State.conditionBits, State.policyUpdates, h]

@[simp] theorem State.after_zero (s : State) : s.after 0 = some s := rfl

theorem State.after_succ_of_next {s t : State} (h : step s = .next t) (k : Nat) : s.after (k + 1) = t.after k := by
  simp [State.after, h]

theorem State.after_succ_eq_some {s u : State} {k : Nat} (h : s.after (k + 1) = some u) :
    ∃ t, step s = .next t ∧ t.after k = some u := by
  simp only [State.after] at h
  split at h
  · rename_i t ht
    exact ⟨t, ht, h⟩
  · simp at h
  · simp at h

end Sys2Proof.Machine
end

