-- ==== Sys2Proof/Tests/Slice0.lean ====
section
/-! SUPPORT. Tests/Slice0.lean: small checks against the vectors of spec/95_test_vectors.md and the patterns of
30_encoding.md R97, an ill-formed term for each check of WellFormed.lean, and for each statement of
Certificates/Slice0/Obligations.lean that has hypotheses a concrete state and operands that meet them. Every expected
value stands in the spec. -/

-- One theorem after another: each evaluates a step in the kernel, and all at once take more threads than there is
-- memory for.
set_option Elab.async false

namespace Sys2Proof.Tests

open Sys2Proof Sys2Proof.Machine

/-- The next state of an outcome. -/
def nextOf : Host.Outcome State Fault Refusal → Option State
  | .next t => some t
  | .fault _ => none
  | .refused _ => none

theorem eq_next_of_nextOf {o : Host.Outcome State Fault Refusal} {t : State} (h : nextOf o = some t) : o = .next t := by
  cases o with
  | next u => simpa [nextOf] using h
  | fault _ => simp [nextOf] at h
  | refused _ => simp [nextOf] at h

/-- The step at `s` answers a next state for which `check` holds. -/
def stepGives (s : State) (check : State → Bool) : Bool :=
  match nextOf (step s) with
  | some t => check t
  | none => false

theorem exists_next_of_stepGives {s : State} {check : State → Bool} (h : stepGives s check = true) :
    ∃ t, step s = .next t ∧ check t = true := by
  unfold stepGives at h
  split at h
  · rename_i t ht
    exact ⟨t, eq_next_of_nextOf ht, h⟩
  · simp at h

/-- A block of the default parameters with the reference policy, right after reset, with the inputs of a line. -/
def block (buf : Memory) (l : StimLine) : State :=
  { State.resetWith .default .reference with buf := buf, pending := [lineInputs l] }

/-- A block of one channel, `CAP = 4` and `TIMEOUT = 2`, whose policy always gives one answer. -/
def tiny (answer : PolicyResult) (buf : Memory) (l : StimLine) : State :=
  { State.resetWith { Params.default with nCh := 1, timeout := 2 } (.table [] answer) with
    buf := buf, pending := [lineInputs l] }

/-- The buffer of E1: a sync gap, its companion, and eight pairs. -/
def frameE1 : Memory :=
  [5000, 400, 400, 1354, 400, 1098, 400, 688, 400, 586, 400, 1610, 400, 842, 400, 1508, 400, 924]

/-- A frame of the block of one channel. -/
def frameTiny : Memory := [5000, 400, 400, 1098]

/-! ### Decoding: words written from the patterns of R97, once with 0 and once with 1 in the don't-care places -/

theorem test_decode_reset : decode 0b01000000 = .ok .reset ∧ decode 0b11111111 = .ok .reset := by decide
theorem test_decode_decIdle :
    decodeUnit .decoder 0b00000000 = some .decIdle ∧ decodeUnit .decoder 0b10111000 = some .decIdle := by decide
theorem test_decode_decTrim :
    decodeUnit .decoder 0b00000010 = some .decTrim ∧ decodeUnit .decoder 0b00111010 = some .decTrim := by decide
theorem test_decode_decWait :
    decodeUnit .decoder 0b00000100 = some .decWait ∧ decodeUnit .decoder 0b00111100 = some .decWait := by decide
theorem test_decode_decDecode :
    decodeUnit .decoder 0b00000001 = some .decDecode ∧ decodeUnit .decoder 0b10111001 = some .decDecode := by decide
theorem test_decode_capNone :
    decodeUnit .capture 0b00000000 = some .capNone ∧ decodeUnit .capture 0b10110001 = some .capNone := by decide
theorem test_decode_capPush :
    decodeUnit .capture 0b00001000 = some .capPush ∧ decodeUnit .capture 0b00111100 = some .capPush := by decide
theorem test_decode_capDrop :
    decodeUnit .capture 0b00001001 = some .capDrop ∧ decodeUnit .capture 0b10111001 = some .capDrop := by decide
theorem test_decode_wdClear :
    decodeUnit .watchdog 0b00000001 = some .wdClear ∧ decodeUnit .watchdog 0b10111001 = some .wdClear := by decide
theorem test_decode_wdTick :
    decodeUnit .watchdog 0b00010000 = some .wdTick ∧ decodeUnit .watchdog 0b00111100 = some .wdTick := by decide
theorem test_decode_wdHold :
    decodeUnit .watchdog 0b00000000 = some .wdHold ∧ decodeUnit .watchdog 0b00101010 = some .wdHold := by decide
theorem test_decode_outUpdate :
    decodeUnit .output 0b10000001 = some .outUpdate ∧ decodeUnit .output 0b10111001 = some .outUpdate := by decide
theorem test_decode_outPolicyHold :
    decodeUnit .output 0b00000001 = some .outPolicyHold ∧ decodeUnit .output 0b00111001 = some .outPolicyHold := by
  decide
theorem test_decode_outOverride :
    decodeUnit .output 0b00100000 = some .outOverride ∧ decodeUnit .output 0b00111100 = some .outOverride := by decide
theorem test_decode_outHold :
    decodeUnit .output 0b00000000 = some .outHold ∧ decodeUnit .output 0b00011100 = some .outHold := by decide

/-- R96: two decoder actions at once, and PU without DEC, are rejected by name. -/
theorem test_decode_rejects :
    decode 0b00000011 = .error .severalDecoderActions ∧ decode 0b00000111 = .error .severalDecoderActions ∧
    decode 0b10000010 = .error .updateWithoutDecode ∧ legalWord 0b00000101 = false ∧ legalWord 0b10000000 = false := by
  decide

/-- The words of the opcode table, each read as a row that has it. -/
theorem test_table_words :
    [0x40, 0x00, 0x02, 0x04, 0x01, 0x08, 0x09, 0x10, 0x81, 0x20].map (decodeTableWord 8) =
      [some .reset, some .decIdle, some .decTrim, some .decWait, some .decDecode, some .capPush, some .capDrop,
        some .wdTick, some .outUpdate, some .outOverride] ∧
    decodeTableWord 8 0x03 = none ∧ decodeTableWord 16 0x40 = none := by decide

/-- Each word of the table is the word of the cycle that `withFetchWord` prepares at reset, and that cycle runs. -/
theorem test_table_words_run :
    [0x40, 0x00, 0x02, 0x04, 0x01, 0x08, 0x09, 0x10, 0x81, 0x20].all (fun w =>
      let s := State.reset.withFetchWord 8 w
      decide (s.conditionWord.toNat = w) && stepGives s (fun _ => true)) = true := by decide +kernel

/-! ### WellFormed: each check refuses an ill-formed term -/

theorem test_params_legal : Params.default.Legal := by decide
theorem test_params_refused :
    ∀ p ∈ [{ Params.default with nCh := 0 }, { Params.default with durW := 1 }, { Params.default with syncThr := 0 },
      { Params.default with syncThr := 65536 }, { Params.default with baseline := 131071 },
      { Params.default with scale := 0 }, { Params.default with steerW := 17 }, { Params.default with thrW := 11 },
      { Params.default with neutralSteer := 184321 }, { Params.default with neutralThr := -1025 },
      { Params.default with neutralThr := 1025 }], ¬ Params.Legal p := by decide
theorem test_reference_needs_three_channels :
    ¬ Policy.reference.Allowed { Params.default with nCh := 2 } ∧
    Policy.external.Allowed { Params.default with nCh := 2 } := by decide
theorem test_bundle_refused :
    (Bundle.ops .capNone .capNone .wdHold .outHold).wellFormed = false ∧
    (Bundle.ops .decIdle .wdHold .wdHold .outHold).wellFormed = false ∧
    (Bundle.ops .decIdle .capNone .outHold .outHold).wellFormed = false ∧
    (Bundle.ops .decIdle .capNone .wdHold .decIdle).wellFormed = false ∧
    (Bundle.ops .decIdle .capDrop .wdHold .outHold).wellFormed = false ∧
    (Bundle.ops .decIdle .capNone .wdClear .outHold).wellFormed = false ∧
    (Bundle.ops .decIdle .capNone .wdHold .outUpdate).wellFormed = false := by decide
theorem test_line_refused :
    StimLine.wellFormed .default [.push 1, .push 2] = false ∧ StimLine.wellFormed .default [.tick, .tick] = false ∧
    StimLine.wellFormed .default [.rst, .rst] = false ∧ StimLine.wellFormed .default [.push 65536] = false ∧
    StimLine.wellFormed .default [.rst, .push 5000, .tick] = true := by decide
theorem test_stimulus_refused :
    (Stimulus.line [.push 65536]).wellFormed .default = false ∧
    (Stimulus.frame 65536 400 (List.replicate 8 (400, 1098))).wellFormed .default = false ∧
    (Stimulus.frame 5000 65536 (List.replicate 8 (400, 1098))).wellFormed .default = false ∧
    (Stimulus.frame 5000 400 (List.replicate 7 (400, 1098))).wellFormed .default = false ∧
    (Stimulus.frame 5000 400 (List.replicate 8 (400, 65536))).wellFormed .default = false ∧
    (Stimulus.frames 65536 (List.replicate 8 1498)).wellFormed .default = false ∧
    (Stimulus.frames 5000 (List.replicate 9 1498)).wellFormed .default = false ∧
    (Stimulus.frames 5000 (List.replicate 8 399)).wellFormed .default = false ∧
    (Stimulus.frames 5000 (List.replicate 8 65936)).wellFormed .default = false ∧
    (Stimulus.frames 5000 (List.replicate 8 1498)).expand .default ≠ none := by decide

/-! ### One cycle of each operation, from the vectors of 95_test_vectors.md -/

/-- V-RST-2: no decode, the push is lost, the tick is not counted. -/
theorem test_reset_beats_all :
    stepGives { block frameE1 [.rst, .push 5000, .tick] with wd := 7 } (fun t =>
      decide (t.buf = [] ∧ t.wd = 0 ∧ t.chValid = false ∧ t.outs.decFire = false)) = true := by decide +kernel

/-- V-RST-3. -/
theorem test_reset_ends_failsafe :
    stepGives { block [] [.rst] with wd := 500001, ind := .failsafe } (fun t =>
      decide (t.wd = 0 ∧ t.failsafe = false ∧ t.ind = .none ∧ t.CommandNeutral)) = true := by decide +kernel

/-- V-DEC-1, V-DEC-2. -/
theorem test_decIdle :
    stepGives (block [] []) (fun t => decide (t.buf = [])) = true ∧
    stepGives (block [] [.push 2999]) (fun t => decide (t.buf = [2999] ∧ t.outs.decFire = false)) = true := by
  decide +kernel

/-- V-DEC-3, V-DEC-5. -/
theorem test_decTrim :
    stepGives (block [2999] []) (fun t => decide (t.buf = [])) = true ∧
    stepGives (block [2999] [.push 3000]) (fun t => decide (t.buf = [3000])) = true := by decide +kernel

/-- V-DEC-9: a full buffer with a short front is trimmed, not decoded. -/
theorem test_decTrim_full :
    stepGives (block (2999 :: List.replicate 17 400) []) (fun t =>
      decide (t.buf.length = 17 ∧ t.outs.decFire = false)) = true := by decide +kernel

/-- V-DEC-4, V-DEC-7. -/
theorem test_decWait :
    stepGives (block [3000] []) (fun t => decide (t.buf = [3000])) = true ∧
    stepGives (block [5000, 400, 6000] []) (fun t => decide (t.buf = [5000, 400, 6000] ∧ t.outs.decFire = false)) =
      true := by decide +kernel

/-- V-DEC-11: the push that fills the buffer is followed by a decode cycle. -/
theorem test_decWait_fills :
    stepGives (block (5000 :: List.replicate 16 400) [.push 700]) (fun t =>
      decide (t.buf.length = 18 ∧ t.act = .decode ∧ t.outs.decFire = false)) = true := by decide +kernel

/-- E1, with the command of the Raw mode; V-BUF-6: the buffer is cleared. -/
theorem test_decDecode :
    stepGives (block frameE1 []) (fun t =>
      decide (t.ch = [768, 512, 102, 0, 1024, 256, 922, 338] ∧ t.outs.decVec = t.ch ∧ t.chValid = true ∧ t.buf = [] ∧
        t.cmdSteer = 92160 ∧ t.cmdThr = 512)) = true := by decide +kernel

/-- E2 and 95_test_vectors.md 2.2. -/
theorem test_decodeChannel :
    [(400, 585), (0, 0), (0, 985), (0, 986), (400, 587), (400, 1098), (400, 1354), (400, 600), (400, 1600),
      (1009, 1000), (1010, 1000), (1011, 1000), (5000, 400), (65535, 65535)].map
        (fun ab => decodeChannel .default ab.1 ab.2) =
      [0, 0, 0, 0, 1, 512, 768, 14, 1014, 1023, 1024, 1024, 1024, 1024] ∧
    decodeChannel { Params.default with baseline := 0, scale := 1 } 0 0 = 0 ∧
    decodeChannel { Params.default with baseline := 0, scale := 1 } 0 1 = 1 := by decide

/-- V-BUF-1. -/
theorem test_capNone : stepGives (block [5000, 400] []) (fun t => decide (t.buf = [5000, 400])) = true := by
  decide +kernel

/-- V-BUF-2, V-BUF-3: 0 is a legal duration; the pop comes before the push. -/
theorem test_capPush :
    stepGives (block [5000] [.push 0]) (fun t => decide (t.buf = [5000, 0])) = true ∧
    stepGives (block [400] [.push 1100]) (fun t => decide (t.buf = [1100])) = true := by decide +kernel

/-- V-BUF-4: a full buffer that is trimmed takes the push and stays full. -/
theorem test_capPush_full :
    stepGives (block (400 :: List.replicate 17 1100) [.push 5000]) (fun t =>
      decide (t.buf.length = 18 ∧ t.buf.getLast? = some 5000)) = true := by decide +kernel

/-- V-BUF-5: the duration offered in the decode cycle is lost. -/
theorem test_capDrop :
    stepGives (block frameE1 [.push 5000]) (fun t => decide (t.buf = [] ∧ t.outs.capPause = true)) = true := by
  decide +kernel

/-- V-WD-8, V-WD-9. -/
theorem test_wdClear :
    stepGives { block frameE1 [.tick] with wd := 500001 } (fun t => decide (t.wd = 0 ∧ t.failsafe = false)) = true ∧
    stepGives (block frameE1 []) (fun t => decide (t.wd = 0)) = true := by decide +kernel

/-- V-WD-3, V-WD-5, V-WD-6: the threshold and the saturation. -/
theorem test_wdTick :
    stepGives { block [] [.tick] with wd := 499999 } (fun t => decide (t.wd = 500000 ∧ t.failsafe = false)) = true ∧
    stepGives { block [] [.tick] with wd := 500000 } (fun t => decide (t.wd = 500001 ∧ t.failsafe = true)) = true ∧
    stepGives { block [] [.tick] with wd := 500001 } (fun t => decide (t.wd = 500001)) = true := by decide +kernel

/-- V-WD-10: with `TIMEOUT = 0` the first tick is failsafe. -/
theorem test_wdTick_timeout_zero :
    stepGives { block [] [.tick] with params := { Params.default with timeout := 0 } } (fun t =>
      decide (t.wd = 1 ∧ t.failsafe = true)) = true := by decide +kernel

/-- V-WD-1, V-WD-4, V-WD-7. -/
theorem test_wdHold :
    stepGives { block [] [] with wd := 10 } (fun t => decide (t.wd = 10)) = true ∧
    stepGives { block [] [] with wd := 500000 } (fun t => decide (t.wd = 500000 ∧ t.failsafe = false)) = true ∧
    stepGives { block [] [] with wd := 500001 } (fun t => decide (t.wd = 500001 ∧ t.outs.indFsStb = true)) = true := by
  decide +kernel

/-- V-OUT-1, V-OUT-6: the policy's command, a negative throttle among them. -/
theorem test_outUpdate :
    stepGives { tiny (.update 92160 512) frameTiny [] with cmdSteer := 0 } (fun t =>
      decide (t.cmdSteer = 92160 ∧ t.cmdThr = 512 ∧ t.ind = .alive ∧ t.outs.indFsStb = false)) = true ∧
    stepGives { tiny (.update 0 (-307)) frameTiny [] with cmdSteer := 138240, cmdThr := 512, ind := .alive } (fun t =>
      decide (t.cmdSteer = 0 ∧ t.cmdThr = -307 ∧ t.cmdThrPort = 0xECD#t.params.thrW)) = true := by decide +kernel

/-- V-OUT-2: the command stays, the indicator leaves FAILSAFE. -/
theorem test_outPolicyHold :
    stepGives { tiny .hold frameTiny [] with wd := 3, ind := .failsafe } (fun t =>
      decide (t.cmdSteer = 92160 ∧ t.cmdThr = 0 ∧ t.ind = .alive ∧ t.outs.indFsStb = false)) = true := by decide +kernel

/-- V-OUT-3, V-OUT-5. -/
theorem test_outOverride :
    stepGives { block [5000] [.tick] with cmdSteer := 184320, cmdThr := 307, wd := 500000, ind := .alive } (fun t =>
      decide (t.cmdSteer = 92160 ∧ t.cmdThr = 0 ∧ t.ind = .failsafe ∧ t.outs.indFsStb = true)) = true ∧
    stepGives { block [] [] with wd := 500001, ind := .failsafe } (fun t =>
      decide (t.CommandNeutral ∧ t.ind = .failsafe ∧ t.outs.indFsStb = true)) = true := by decide +kernel

/-- V-OUT-4. -/
theorem test_outHold :
    stepGives { block [5000] [] with cmdSteer := 184320, cmdThr := 307, wd := 10, ind := .alive } (fun t =>
      decide (t.cmdSteer = 184320 ∧ t.cmdThr = 307 ∧ t.ind = .alive ∧ t.outs.indFsStb = false)) = true := by
  decide +kernel

/-! ### Conditions, words, ports and the reference policy -/

/-- V-CW-2, V-CW-3 and V-CW-6: the condition word from the state and the inputs. -/
theorem test_condition_words :
    State.conditionWord { block [400] [.push 7] with wd := 10 } = 0x0A ∧
    State.conditionWord { block [5000] [.tick] with wd := 500000 } = 0x34 ∧
    State.conditionWord { block [] [] with wd := 500001 } = 0x20 := by decide +kernel

/-- V-CW-4 and V-CW-5: in a decode cycle. -/
theorem test_condition_words_decode :
    State.conditionWord { tiny (.update 1 1) frameTiny [.push 7, .tick] with wd := 1 } = 0x99 ∧
    State.conditionWord { tiny .hold frameTiny [.tick] with wd := 3 } = 0x31 := by decide +kernel

/-- P1: the input words of its first frame lines, and of the last. -/
theorem test_input_words :
    ((Stimulus.frames 5000 [1754, 1498, 1088, 986, 2010, 900, 2500, 1242]).expand .default).map
        (fun ls => (withTicks ls).map (encodeLine .default)) =
      some [0x31388, 0x30190, 0x30190, 0x3054A, 0x30190, 0x3044A, 0x30190, 0x302B0, 0x30190, 0x3024A, 0x30190, 0x3064A,
        0x30190, 0x301F4, 0x30190, 0x30834, 0x30190, 0x3034A, 0x20000] := by decide

/-- P1: the `ch_code` bus at its end, and the outputs of a reset block. -/
theorem test_ports :
    packBus 11 [768, 512, 102, 0, 1024, 0, 1024, 256] = 0x2010000040000019900300 ∧ codeW .default = 11 ∧
    wdW .default = 19 ∧ lenW .default = 5 ∧ State.reset.indPort = 0 ∧ State.reset.failsafePort = 0 ∧
    State.reset.decStatePort = 0 := by decide

/-- 95_test_vectors.md 2.6: the reference policy on codes. -/
theorem test_reference_policy :
    [(768, 512, 102), (768, 768, 0), (0, 512, 337), (1024, 1024, 337), (1024, 512, 338), (1024, 1024, 512),
      (1024, 0, 675), (0, 0, 338), (0, 1024, 600), (768, 768, 400), (512, 256, 500), (1024, 0, 676)].map
        (fun n => referencePolicy .default [n.1, n.2.1, n.2.2]) =
      [.update 92160 512, .update 138240 512, .update 92160 (-1024), .update 184320 1024, .update 92160 1024,
        .update 184320 307, .update 0 307, .update 0 (-307), .update 184320 (-307), .update 138240 332,
        .update 46080 0, .hold] := by decide +kernel

/-! ### The hypotheses of the statements are met

For each statement with hypotheses, states and operands that meet all of them together, one for each clause, at the
boundary where the clause has one. `stepGives s c = true` says that `step s` answers some next state with `c`
(`exists_next_of_stepGives`). -/

/-- A decode cycle of the small block. -/
def decodeCycle (answer : PolicyResult) (l : StimLine) : State := tiny answer frameTiny l

/-- The small block in failsafe. -/
def inFailsafe (buf : Memory) (l : StimLine) : State := { tiny .hold buf l with wd := 3, ind := .failsafe }

/-- The small block one tick before failsafe. -/
def beforeFailsafe (buf : Memory) (l : StimLine) : State := { tiny .hold buf l with wd := 2, ind := .alive }

theorem witness_ResetCycleOverridesEverything :
    ((block frameE1 [.rst]).Elaborated ∧ (block frameE1 [.rst]).input.rst = true ∧ (block frameE1 [.rst]).LegalValues) ∧
    (State.Elaborated { block [] [.rst] with wd := 500002 } ∧
      State.input { block [] [.rst] with wd := 500002 } = lineInputs [.rst] ∧
      ¬ State.LegalValues { block [] [.rst] with wd := 500002 }) := by decide +kernel

theorem witness_InvariantsHoldAtReset :
    Params.default.Legal ∧ Policy.reference.Allowed .default ∧
    ({ Params.default with nCh := 1, durW := 2, syncThr := 3, baseline := 6, timeout := 0, neutralSteer := 184320
                           neutralThr := -1024 } : Params).Legal ∧
    Policy.external.Allowed { Params.default with nCh := 1 } := by decide

theorem inFailsafe_inv (l : StimLine) : (inFailsafe [5000, 400] l).Inv := by
  constructor <;> simp [inFailsafe, tiny, State.resetWith, Params.default, Params.cap, State.CommandNeutral]

theorem witness_StepKeepsInvariants :
    (inFailsafe [5000, 400] [.push 7]).Inv ∧ stepGives (inFailsafe [5000, 400] [.push 7]) (fun _ => true) = true :=
  ⟨inFailsafe_inv _, by decide +kernel⟩

theorem witness_StepKeepsFieldWidths :
    (decodeCycle .hold []).Typed ∧ stepGives (decodeCycle .hold []) (fun _ => true) = true := by
  refine ⟨?_, by decide +kernel⟩
  constructor <;> decide +kernel

theorem witness_CycleNeverStops :
    (decodeCycle .hold [.push 7]).Ready ∧ (tiny .hold (400 :: [0, 0, 0]) [.push 7]).Ready := by decide +kernel

theorem witness_IllegalStateFaultsUnderEveryInput :
    (∀ s ∈ [{ block [] [] with ind := .reserved }, { block [] [] with ch := [1025] }, { block [] [] with wd := 500002 },
      block (List.replicate 19 5000) []], State.Elaborated s ∧ ¬ State.LegalValues s) := by decide +kernel

theorem witness_IllegalParametersAreRefused :
    ¬ State.Elaborated { block [] [] with params := { Params.default with nCh := 0 }, policy := .external } ∧
    ¬ State.Elaborated { block [] [] with params := { Params.default with nCh := 2 } } := by decide +kernel

theorem witness_OperationMap :
    (0x40#8).getLsbD 6 = true ∧ legalWord 0x99 = true ∧ (0x99#8).getLsbD 6 = false := by decide

theorem witness_ConditionWordIsAlwaysLegal :
    (0x03#8).getLsbD 6 = false ∧ (0x82#8).getLsbD 6 = false ∧ (0x81#8).getLsbD 6 = false ∧
    State.conditionWord (decodeCycle (.update 1 1) []) = 0x81 := by decide +kernel

theorem witness_DecodeEncodeAgree :
    legalWord (encode .capDrop 0xB0) = true ∧ encode .capDrop 0xB0 = 0xB9 ∧
    (Bundle.ops .decDecode .capDrop .wdClear .outUpdate).wellFormed = true ∧
    decode 0x99 = .ok (.ops .decDecode .capDrop .wdClear .outUpdate) := by decide

theorem witness_CycleSelectsByTheRulesConditions :
    (block [] [.rst]).input.rst = true ∧ (block [] [.push 7]).input.rst = false := by decide +kernel

theorem witness_StimulusLineRoundTrip :
    StimLine.wellFormed .default [.tick, .push 65535, .rst] = true ∧
    StimItem.push 65535 ∈ [StimItem.tick, .push 65535, .rst] := by decide

theorem witness_FramesExpansion :
    (Stimulus.frames 5000 [400, 65935, 1498, 1498, 1498, 1498, 1498, 1498]).wellFormed .default = true ∧
    7 < Params.default.nCh := by decide

theorem witness_BusHoldsChannelsInOrder : [5, 2047][1]? = some 2047 ∧ 2047 < 2 ^ 11 := by decide

/-- A state of the default block with a full buffer and codes at both ends of their range. -/
def shown (thr : Int) : State :=
  { block frameE1 [] with
    ch := [0, 1024, 7, 8, 9, 10, 11, 1024], chValid := true, cmdSteer := 184320, cmdThr := thr, wd := 500001
    ind := .failsafe, outs := { CycleOutputs.quiet .default with decVec := List.replicate 8 1024 } }

theorem witness_PortCodes :
    ∀ thr ∈ [-307, -512], (shown thr).params.Legal ∧ (shown thr).Typed ∧ (shown thr).params.thrW = 12 ∧
      (shown thr).cmdThr = thr ∧ (shown thr).ch[7]? = some 1024 ∧ (shown thr).outs.decVec[7]? = some 1024 ∧
      1024 < 2 ^ codeW (shown thr).params := by
  intro thr h
  simp only [List.mem_cons, List.not_mem_nil, or_false] at h
  rcases h with rfl | rfl <;> refine ⟨by decide +kernel, ?_, by decide +kernel⟩ <;> constructor <;> decide +kernel

theorem witness_EveryLegalWordArises :
    let zero := { block [] [.tick] with params := { Params.default with timeout := 0 } }
    (inFailsafe [] []).Ready ∧ 1 ≤ (inFailsafe [] []).params.timeout ∧ legalWord 0xB9 = true ∧
    (0xB9#8).getLsbD 6 = false ∧
    zero.Ready ∧ zero.params.timeout = 0 ∧ legalWord 0x20 = true ∧ (0x20#8).getLsbD 4 = false ∧
    legalWord 0x30 = true ∧ (0x30#8).getLsbD 5 = true ∧ zero.conditionWord.getLsbD 4 = true ∧
    (0x43#8).getLsbD 6 = true := by decide +kernel

theorem witness_StepRunsTheDecodedOperations :
    (block frameE1 [.rst]).Ready ∧ (block [400] [.push 7]).Ready ∧
    decode (block frameE1 [.rst]).conditionWord = .ok .reset ∧
    decode (block [400] [.push 7]).conditionWord = .ok (.ops .decTrim .capPush .wdHold .outHold) := by decide +kernel

theorem witness_StepIsThePhaseText : (block frameE1 [.push 7, .tick]).Ready := by decide +kernel

theorem witness_CycleDrivesItsMealyOutputs :
    stepGives (decodeCycle .hold []) (fun t => t.outs.decFire) = true ∧
    stepGives (inFailsafe [] []) (fun t => !t.outs.decFire && t.outs.indFsStb) = true := by decide +kernel

theorem witness_PauseBracket :
    stepGives (decodeCycle .hold [.push 7]) (fun _ => true) = true ∧ (decodeCycle .hold [.push 7]).input.rst = false ∧
    (decodeCycle .hold [.push 7]).mealyOutputs.capPause = true ∧
    stepGives { decodeCycle .hold [.push 7] with pending := [lineInputs [.push 65535, .tick]] } (fun _ => true) = true :=
  by decide +kernel

theorem witness_TrimDropsTheOldestEntry : 1 ≤ (block [0] []).buf.length := by decide

theorem witness_DecodeWritesAllChannels :
    (decodeCycle .hold []).params.cap ≤ (decodeCycle .hold []).buf.length ∧ 0 < (decodeCycle .hold []).params.nCh := by
  decide

theorem witness_PushAppendsOrOverflows :
    (tiny .hold [5000, 400, 400] [.push 0]).buf.length < (tiny .hold [5000, 400, 400] [.push 0]).params.cap ∧
    (decodeCycle .hold [.push 0]).buf.length = (decodeCycle .hold [.push 0]).params.cap := by decide

theorem witness_UpdateWritesThePolicysCommand :
    (decodeCycle (.update 262143 (-2048)) []).decodeVector = some [512] ∧
    Policy.answer (decodeCycle (.update 262143 (-2048)) []).params (decodeCycle (.update 262143 (-2048)) []).policy [512] =
      .update 262143 (-2048) ∧
    262143 < 2 ^ (decodeCycle (.update 262143 (-2048)) []).params.steerW ∧
    1 ≤ (decodeCycle (.update 262143 (-2048)) []).params.thrW ∧
    -(2 ^ ((decodeCycle (.update 262143 (-2048)) []).params.thrW - 1) : Int) ≤ -2048 ∧
    (-2048 : Int) < 2 ^ ((decodeCycle (.update 262143 (-2048)) []).params.thrW - 1) := by decide +kernel

theorem witness_OperationsWithoutOperandFault :
    (tiny .hold [] []).buf.length = 0 ∧
    (tiny .hold [5000, 400, 400] []).buf.length < (tiny .hold [5000, 400, 400] []).params.cap ∧
    1 ≤ (tiny .hold [5000, 400, 400] []).params.nCh ∧ (decodeCycle .hold []).policyAnswer = some .hold := by
  decide +kernel

theorem witness_DecodeChannelRule :
    1 ≤ ({ Params.default with scale := 1 } : Params).scale ∧ 65535 < 2 ^ Params.default.durW := by decide

theorem witness_DecoderValuesFitTheirWidths :
    65535 < 2 ^ Params.default.durW ∧
    ({ Params.default with baseline := 131070 } : Params).baseline ≤ 2 ^ (Params.default.durW + 1) - 2 ∧
    pairSum 400 585 < Params.default.baseline ∧
    Params.default.baseline + Params.default.scale < pairSum 1011 1000 := by decide

theorem witness_ChannelsAreIndependentLanes :
    let s := decodeCycle .hold []
    let t := tiny .hold [3000, 7, 400, 1098] [.tick]
    t.params = s.params ∧ s.act = .decode ∧ t.act = .decode ∧ s.input.rst = false ∧ t.input.rst = false ∧
    stepGives s (fun _ => true) = true ∧ stepGives t (fun _ => true) = true ∧ 0 < s.params.nCh ∧
    s.buf[2]? = t.buf[2]? ∧ s.buf[3]? = t.buf[3]? := by decide +kernel

theorem witness_BufferOfTheNextCycle :
    let s := tiny .hold [400, 0, 0, 0] [.push 65535]
    stepGives s (fun _ => true) = true ∧ s.input.rst = false ∧ s.act = .trim ∧ s.input.capValid = true ∧
    s.buf.length = s.params.cap := by decide +kernel

theorem witness_CapacityIsNeverExceeded :
    let s := tiny .hold [400, 0, 0, 0] [.push 65535]
    s.buf.length ≤ s.params.cap ∧ stepGives s (fun _ => true) = true := by decide +kernel

theorem witness_ChannelRegisterWriters :
    let s := decodeCycle .hold [.push 7]
    let u := tiny .hold [400] []
    stepGives s (fun _ => true) = true ∧ s.input.rst = false ∧ s.act = .decode ∧ 0 < s.params.nCh ∧
    stepGives u (fun _ => true) = true ∧ u.input.rst = false ∧ u.act ≠ .decode := by decide +kernel

theorem witness_WatchdogUnitRules :
    (∀ s ∈ [decodeCycle .hold [.tick], beforeFailsafe [] [.tick], beforeFailsafe [] []],
      stepGives s (fun _ => true) = true ∧ s.input.rst = false) ∧
    decodeUnit .watchdog (decodeCycle .hold [.tick]).conditionWord = some .wdClear ∧
    decodeUnit .watchdog (beforeFailsafe [] [.tick]).conditionWord = some .wdTick ∧
    decodeUnit .watchdog (beforeFailsafe [] []).conditionWord = some .wdHold := by decide +kernel

theorem witness_OutputUnitRules :
    (∀ s ∈ [decodeCycle .hold [], beforeFailsafe [] [.tick], beforeFailsafe [] []],
      stepGives s (fun _ => true) = true ∧ s.input.rst = false) ∧
    decodeUnit .output (decodeCycle .hold []).conditionWord = some .outPolicyHold ∧
    decodeUnit .output (beforeFailsafe [] [.tick]).conditionWord = some .outOverride ∧
    decodeUnit .output (beforeFailsafe [] []).conditionWord = some .outHold ∧
    Policy.external.Allowed (beforeFailsafe [] [.tick]).params := by decide +kernel

theorem witness_OverrideCondition :
    stepGives (beforeFailsafe [] [.tick]) (fun t => t.outs.indFsStb) = true ∧
    stepGives (beforeFailsafe [] []) (fun t => !t.outs.indFsStb) = true ∧
    (beforeFailsafe [] [.tick]).input.rst = false ∧ (beforeFailsafe [] []).input.rst = false := by decide +kernel

theorem witness_OverrideStateMachine :
    (stepGives (inFailsafe [] [.rst]) (fun _ => true) = true ∧ (inFailsafe [] [.rst]).input.rst = true) ∧
    (stepGives (decodeCycle (.update 7 7) []) (fun _ => true) = true ∧ (decodeCycle (.update 7 7) []).act = .decode ∧
      (decodeCycle (.update 7 7) []).policyAnswer = some (.update 7 7)) ∧
    (stepGives (inFailsafe frameTiny []) (fun _ => true) = true ∧ (inFailsafe frameTiny []).act = .decode ∧
      (inFailsafe frameTiny []).policyAnswer = some .hold ∧ (inFailsafe frameTiny []).failsafe = true) ∧
    (stepGives (beforeFailsafe [] []) (fun t => decide (t.wd ≤ 2)) = true ∧ (beforeFailsafe [] []).failsafe = false) ∧
    (stepGives (beforeFailsafe [] [.tick]) (fun t => decide (2 < t.wd)) = true ∧ (beforeFailsafe [] [.tick]).act = .idle) ∧
    (stepGives (inFailsafe [] []) (fun _ => true) = true ∧ (inFailsafe [] []).act = .idle ∧
      (inFailsafe [] []).failsafe = true ∧ (inFailsafe [] []).input.rst = false) := by decide +kernel

theorem witness_OverrideStateMachine_inv : (inFailsafe frameTiny []).Inv := by constructor <;> decide +kernel

theorem witness_FailsafePersists :
    (stepGives (beforeFailsafe [] [.tick]) (fun _ => true) = true ∧ (beforeFailsafe [] [.tick]).input.rst = false ∧
      (beforeFailsafe [] [.tick]).act ≠ .decode) ∧
    ((inFailsafe [] [.push 7]).failsafe = true ∧ (inFailsafe [] [.push 7]).quietFor 1 ∧
      ((inFailsafe [] [.push 7]).after 1).isSome = true) ∧
    (stepGives (inFailsafe frameTiny []) (fun t => !t.failsafe) = true ∧ (inFailsafe frameTiny []).failsafe = true) :=
  ⟨by decide +kernel, ⟨by decide +kernel, ⟨by decide +kernel, by decide +kernel, fun _ _ => trivial⟩, by decide +kernel⟩,
    by decide +kernel⟩

theorem witness_FailsafeEntry :
    (beforeFailsafe [400] [.tick, .push 7]).failsafe = false ∧
    stepGives (beforeFailsafe [400] [.tick, .push 7]) (fun t => t.failsafe) = true := by decide +kernel

theorem witness_FailsafeExit :
    (inFailsafe frameTiny [.tick]).failsafe = true ∧ (inFailsafe frameTiny [.tick]).input.rst = false ∧
    (inFailsafe frameTiny [.tick]).act = .decode ∧ (inFailsafe frameTiny [.tick]).CommandNeutral ∧
    (inFailsafe frameTiny [.tick]).policyAnswer = some .hold ∧
    stepGives (inFailsafe frameTiny [.tick]) (fun t => !t.failsafe) = true := by decide +kernel

theorem witness_SimultaneousEvents :
    (stepGives (block frameE1 [.rst, .push 7]) (fun _ => true) = true ∧ (block frameE1 [.rst, .push 7]).input.rst = true) ∧
    (stepGives (decodeCycle .hold [.tick, .push 7]) (fun _ => true) = true ∧
      (decodeCycle .hold [.tick, .push 7]).act = .decode ∧ (decodeCycle .hold [.tick, .push 7]).input.rst = false) ∧
    (stepGives (tiny .hold [400] [.push 7]) (fun _ => true) = true ∧ (tiny .hold [400] [.push 7]).act = .trim) ∧
    (stepGives (inFailsafe [] [.tick, .push 7]) (fun t => t.outs.indFsStb) = true ∧
      (inFailsafe [] [.tick, .push 7]).act ≠ .decode ∧ (inFailsafe [] [.tick, .push 7]).input.capValid = true ∧
      (inFailsafe [] [.tick, .push 7]).input.usTick = true) := by decide +kernel

theorem witness_LoopStateMachine :
    (stepGives (tiny .hold [5000, 400, 400] [.push 7]) (fun t => decide (t.decState = .decoding)) = true ∧
      (tiny .hold [5000, 400, 400] [.push 7]).decState = .synced) ∧
    (stepGives (decodeCycle .hold []) (fun _ => true) = true ∧ (decodeCycle .hold []).decState = .decoding) ∧
    (stepGives (tiny .hold [] [.push 3000]) (fun t => decide (t.decState = .synced)) = true ∧
      (tiny .hold [] [.push 3000]).input.rst = false) ∧
    (stepGives (tiny .hold [1300] [.push 5000]) (fun t => decide (t.decState = .synced)) = true ∧
      (tiny .hold [1300] [.push 5000]).act = .trim ∧ (tiny .hold [1300] [.push 5000]).input.rst = false) ∧
    (stepGives (tiny .hold [2999, 3000, 0, 0] [.push 5000]) (fun t => decide (t.decState = .decoding)) = true ∧
      stepGives (tiny .hold [2999, 3000, 0, 0] []) (fun t => decide (t.decState = .synced)) = true ∧
      (tiny .hold [2999, 3000, 0, 0] []).act = .trim ∧ (tiny .hold [2999, 3000, 0, 0] []).input.rst = false) := by
  decide +kernel

theorem witness_LoopStateMachine_inv :
    (tiny .hold [1300] [.push 5000]).Inv ∧ (tiny .hold [1300] [.push 5000]).decState = .searching := by
  refine ⟨?_, by decide +kernel⟩
  constructor <;> decide +kernel

theorem witness_DecodeOnlyRightAfterAPush :
    let s := (tiny .hold [5000, 400, 400] []).offer [lineInputs [], lineInputs [.push 7]]
    s.input.capValid = false ∧
    stepGives s (fun t => decide (t.input.rst = false ∧ t.input.capValid = true)) = true := by decide +kernel

theorem witness_DurationIgnoredWithoutValid : (lineInputs [.tick]).capValid = false := by decide

theorem witness_PolicyConsultedOnlyInDecodeCycles :
    Policy.reference.Allowed (block [400] []).params ∧ (block [400] []).act ≠ .decode ∧
    stepGives (block [400] []) (fun _ => true) = true := by decide +kernel

theorem witness_ChannelRegisterIsNeverReadBack :
    (∀ c ∈ [0, 1024], c ≤ (decodeCycle .hold []).params.scale) ∧
    stepGives (decodeCycle .hold []) (fun _ => true) = true ∧ (decodeCycle .hold []).act = .decode := by decide +kernel

theorem witness_FailsafeAfterTimeoutTicks :
    let s := { tiny .hold [] [.tick] with params := { Params.default with timeout := 0 } }
    s.quietFor 1 ∧ (s.after 1).any (fun t => t.failsafe) = true ∧ s.wd = 0 ∧ s.Inv := by
  refine ⟨⟨by decide +kernel, by decide +kernel, fun _ _ => trivial⟩, by decide +kernel, by decide +kernel, ?_⟩
  constructor <;> decide +kernel

theorem witness_LeadingShortValuesAreTrimmed :
    (tiny .hold [2999, 5000] []).Ready ∧ (tiny .hold [2999, 5000] []).buf = [2999] ++ [5000] ∧
    (∀ d ∈ [2999], d < (tiny .hold [2999, 5000] []).params.syncThr) ∧
    [2999].length ≤ (tiny .hold [2999, 5000] []).pending.length ∧
    (∀ i ∈ (tiny .hold [2999, 5000] []).pending.take 1, i.rst = false ∧ i.capValid = false) := by decide +kernel

theorem witness_CompleteFrameIsDecoded :
    let ins := [[], [.push 3000], [.tick], [.push 0], [.push 65535], [], [.push 65535]].map lineInputs
    let pushes := [3000, 0, 65535, 65535].map (fun d => lineInputs [.push d])
    let s := (tiny .hold [] []).offer (ins ++ [lineInputs [.push 7, .tick]])
    s.Ready ∧ s.buf = [] ∧ pushes = ins.filter (fun i => i.capValid) ∧ pushes.length = s.params.cap ∧
    (∀ i ∈ ins, i.rst = false ∧ (i.capValid = true → i.capDur < 2 ^ s.params.durW)) ∧
    pushes.head? = some (lineInputs [.push 3000]) ∧ s.params.syncThr ≤ (lineInputs [.push 3000]).capDur ∧
    ins.getLast? = some (lineInputs [.push 65535]) ∧ (lineInputs [.push 65535]).capValid = true ∧
    (lineInputs [.push 7, .tick]).rst = false := by decide +kernel

theorem witness_ReferencePolicyOnCodes : Params.default.scale = 1024 ∧ 0 ≤ 1024 ∧ 1024 ≤ 1024 := by decide

theorem witness_ReferencePolicyStaysInRange :
    Params.default.Legal ∧ (∀ c ∈ [0, 1024, 600], c ≤ Params.default.scale) ∧
    referencePolicy .default [0, 1024, 600] = .update 184320 (-307) := by decide +kernel

end Sys2Proof.Tests
end

section
/-! PROOF. Scope: a block that does not elaborate has no step (00_scope.md R10). -/

namespace Sys2Proof.Machine

/-- The check of the parameters and the policy comes first in a cycle: neither the registers nor the inputs, `rst`
among them, change the outcome (60_exceptions.md R245). -/
theorem step_of_not_elaborated {s : State} (h : ¬ s.Elaborated) : step s = .refused .illegalParam := by
  simp only [step, cycle]
  rw [if_neg h]

/-- Settles O9: it holds, since the cycle's first check is that the block elaborates. -/
theorem illegalParametersAreRefused : Obligations.IllegalParametersAreRefused := by
  unfold Obligations.IllegalParametersAreRefused
  intro s hs
  exact step_of_not_elaborated hs

end Sys2Proof.Machine
end

section
/-! PROOF. The step in closed form: in every state in which a cycle can run, the four operations that the condition
word selects give RESET_STATE or the next state of 40_cycle.md R111, and never stop. -/

namespace Sys2Proof.Machine

/-! ### The vector, the count and the buffer of a cycle -/

/-- The two spellings of the decode datapath agree where there is a frame (42_frame_decoder.md R155, R156). -/
theorem State.decodeVector_eq_phaseVector {s : State} (h : s.act = .decode) :
    s.decodeVector = some (phaseVector s) := by
  simp [s.decodeVector_of_act_decode h, phaseVector, decodeChannel, clamp, pairOffset, pairSum]

@[simp] theorem phaseVector_length (s : State) : (phaseVector s).length = s.params.nCh := by
  simp [phaseVector]

theorem phaseVector_le_scale (s : State) : ∀ c ∈ phaseVector s, c ≤ s.params.scale := by
  intro c hc
  obtain ⟨i, -, rfl⟩ := List.mem_map.mp hc
  dsimp only
  omega

theorem State.policyAnswer_eq_phasePolicy {s : State} (h : s.act = .decode) :
    s.policyAnswer = some (phasePolicy s) := by
  simp [State.policyAnswer, State.decodeVector_eq_phaseVector h, phasePolicy]

theorem phaseWd_of_decode {s : State} (h : s.act = .decode) : phaseWd s = 0 := by
  simp [phaseWd, h]

theorem phaseWd_of_not_decode {s : State} (h : s.act ≠ .decode) :
    phaseWd s = if s.input.usTick then saturatingTick s.params s.wd else s.wd := by
  simp [phaseWd, saturatingTick]

theorem phaseWd_le {s : State} (h : s.wd ≤ s.params.timeout + 1) : phaseWd s ≤ s.params.timeout + 1 := by
  unfold phaseWd
  split
  · exact Nat.zero_le _
  · split <;> omega

/-- Without a decode the count never goes down. -/
theorem le_phaseWd {s : State} (hd : s.act ≠ .decode) (h : s.wd ≤ s.params.timeout + 1) : s.wd ≤ phaseWd s := by
  rw [phaseWd_of_not_decode hd, saturatingTick]
  split <;> omega

/-- Outside a decode cycle EXP is the comparison of phase 6 with the new count (30_encoding.md R95, 40_cycle.md
R111). -/
theorem State.expires_eq {s : State} (hd : s.act ≠ .decode) :
    s.expires = decide (s.params.timeout < phaseWd s) := by
  rw [phaseWd_of_not_decode hd, saturatingTick, State.expires]
  cases s.input.usTick <;> simp

/-- Whatever the action, the buffer of phase 3 has room for a push (41_pulse_buffer.md R137). -/
theorem phaseBuffer_length_lt {s : State} (h : s.buf.length ≤ s.params.cap) :
    (phaseBuffer s).length < s.params.cap := by
  have hcap : 0 < s.params.cap := by simp [Params.cap]
  cases ha : s.act with
  | idle => simpa [phaseBuffer, ha, s.act_idle_iff.mp ha] using hcap
  | trim => simp [phaseBuffer, ha]; omega
  | wait =>
    obtain ⟨_, _, -, -, hl⟩ := s.act_wait_iff.mp ha
    simpa [phaseBuffer, ha] using hl
  | decode => simpa [phaseBuffer, ha] using hcap

/-! ### Each unit's selected operation -/

@[simp] theorem State.setCommand_self (s : State) : s.setCommand s.cmdSteer s.cmdThr = s := rfl

/-- The output unit of a decode cycle: the policy's command where it answers with one, and ALIVE either way
(45_failsafe_override.md R221, R222). -/
theorem exec_output_of_decode {s : State} (h : s.act = .decode) :
    exec (if s.policyUpdates then .outUpdate else .outPolicyHold) s =
      .next (s.setCommand (phaseCommand s).1 (phaseCommand s).2).signalAlive := by
  cases hp : phasePolicy s with
  | update steer thr =>
    simp [State.policyUpdates, h, State.policyAnswer_eq_phasePolicy h, hp, exec, execOutUpdate, phaseCommand]
  | hold =>
    simp [State.policyUpdates, h, State.policyAnswer_eq_phasePolicy h, hp, exec, execOutPolicyHold, phaseCommand]

/-- The output unit of every other cycle: the override or nothing (45_failsafe_override.md R223, R224). -/
theorem exec_output_of_not_decode (s : State) :
    exec (if s.expires then .outOverride else .outHold) s =
      .next (if s.expires then s.enterFailsafe else s.driveStrobes false false) := by
  cases s.expires <;> rfl

/-- The watchdog outside a decode cycle (44_watchdog.md R203, R204). -/
theorem exec_watchdog_of_not_decode {s t : State} (hd : s.act ≠ .decode) (hp : t.params = s.params)
    (hw : t.wd = s.wd) :
    exec (if s.input.usTick then .wdTick else .wdHold) t = .next (t.setWd (phaseWd s)) := by
  rw [phaseWd_of_not_decode hd, ← hp, ← hw]
  cases s.input.usTick <;> rfl

/-- The decoder outside a decode cycle: the buffer of phase 3, and no decode (42_frame_decoder.md R151 to R153). -/
theorem exec_decoder_of_not_decode {s t : State} (hd : s.act ≠ .decode) (hb : t.buf = s.buf) :
    exec (if s.act = .trim then .decTrim else if s.act = .wait then .decWait else .decIdle) t =
      .next (State.driveNoDecode { t with buf := phaseBuffer s }) := by
  cases ha : s.act with
  | idle => simp [exec, execDecIdle, phaseBuffer, ha, ← hb]
  | trim =>
    obtain ⟨d, l, hs, -⟩ := s.act_trim_iff.mp ha
    simp [exec, execDecTrim, State.bufFront, State.bufPop, phaseBuffer, ha, hb, hs]
  | wait => simp [exec, execDecWait, phaseBuffer, ha, ← hb]
  | decode => exact absurd ha hd

/-- The capture port with room in the buffer (41_pulse_buffer.md R133, R138). -/
theorem exec_capture_of_room {t : State} (pv : Bool) (h : t.buf.length < t.params.cap) :
    exec (if pv then .capPush else .capNone) t = .next (if pv then t.bufPush t.capDur else t) := by
  cases pv <;> simp [exec, execCapPush, execCapNone, h]

/-! ### The four units together -/

theorem runCycle_of_rst {s : State} (hr : s.input.rst = true) : runCycle s = .next s.loadReset.nextCycle := by
  rw [runCycle_of_decode (decode_toWord_reset s.conditionBits hr)]
  rfl

theorem runCycle_of_decode_action {s : State} (hr : s.input.rst = false) (hd : s.act = .decode) :
    runCycle s = .next (phaseNext s) := by
  have hcap : ∀ t, exec (if s.input.capValid then .capDrop else .capNone) t = .next t := by
    intro t
    cases s.input.capValid <;> rfl
  have hwd : ∀ t, exec .wdClear t = .next (t.setWd 0) := fun _ => rfl
  have hdec : ∀ t : State, t.decodeVector = s.decodeVector → exec .decDecode t =
      .next ((t.setChannels (phaseVector s)).bufClear.driveDecoder true (phaseVector s)) := by
    intro t ht
    simp [exec, execDecDecode, ht, State.decodeVector_eq_phaseVector hd]
  rw [runCycle_of_decode (decode_toWord_ops s.conditionBits hr s.conditionBits_check)]
  simp only [State.conditionBits, hd, runBundle, decide_true, if_true, exec_output_of_decode hd, andThen_next_left, hwd,
    hcap, hdec, State.setWd_decodeVector, State.signalAlive_decodeVector, State.setCommand_decodeVector]
  congr 1
  ext1 <;> simp [phaseNext, phaseBuffer, phaseWd, hd]

/-- The watchdog, the decoder and the capture port after the output unit, which leaves their operands alone. -/
theorem runUnits_of_not_decode {s u : State} (hd : s.act ≠ .decode) (hl : s.buf.length ≤ s.params.cap)
    (hp : u.params = s.params) (hb : u.buf = s.buf) (hw : u.wd = s.wd) (hc : u.capDur = s.capDur) :
    andThen (andThen (exec (if s.input.usTick then .wdTick else .wdHold) u)
        (exec (if s.act = .trim then .decTrim else if s.act = .wait then .decWait else .decIdle)))
        (exec (if s.input.capValid then .capPush else .capNone)) =
      .next (State.driveNoDecode { u.setWd (phaseWd s) with
        buf := if s.input.capValid then phaseBuffer s ++ [s.capDur] else phaseBuffer s }) := by
  rw [exec_watchdog_of_not_decode hd hp hw, andThen_next_left,
    exec_decoder_of_not_decode hd (t := u.setWd (phaseWd s)) hb, andThen_next_left,
    exec_capture_of_room _ (by simpa [hp] using phaseBuffer_length_lt hl), ← hc]
  cases s.input.capValid <;> rfl

theorem runCycle_of_not_decode {s : State} (hr : s.input.rst = false) (hd : s.act ≠ .decode)
    (hl : s.buf.length ≤ s.params.cap) : runCycle s = .next (phaseNext s) := by
  rw [runCycle_of_decode (decode_toWord_ops s.conditionBits hr s.conditionBits_check)]
  simp only [State.conditionBits, hd, runBundle, decide_false, decide_eq_true_eq, if_false, Bool.false_eq_true,
    exec_output_of_not_decode, andThen_next_left]
  cases he : s.expires with
  | true =>
    have hlt : s.params.timeout < phaseWd s := by simpa [State.expires_eq hd] using he
    rw [if_pos rfl, runUnits_of_not_decode (u := s.enterFailsafe) hd hl rfl rfl rfl rfl, andThen_next_left]
    congr 1
    ext1 <;> simp [phaseNext, hd, hlt]
  | false =>
    have hlt : ¬ s.params.timeout < phaseWd s := by simpa [State.expires_eq hd] using he
    rw [if_neg Bool.false_ne_true, runUnits_of_not_decode (u := s.driveStrobes false false) hd hl rfl rfl rfl rfl,
      andThen_next_left]
    congr 1
    ext1 <;> simp [phaseNext, phaseCommand, hd, hlt]

/-- Under `rst = 0` the four units together are R111's phases. -/
theorem runCycle_of_not_rst {s : State} (hr : s.input.rst = false) (hl : s.buf.length ≤ s.params.cap) :
    runCycle s = .next (phaseNext s) := by
  by_cases hd : s.act = .decode
  · exact runCycle_of_decode_action hr hd
  · exact runCycle_of_not_decode hr hd hl

/-! ### The step -/

theorem step_of_rst {s : State} (h : s.Ready) (hr : s.input.rst = true) : step s = .next s.loadReset.nextCycle := by
  rw [step_of_ready h, runCycle_of_rst hr]

theorem step_of_not_rst {s : State} (h : s.Ready) (hr : s.input.rst = false) : step s = .next (phaseNext s) := by
  have ⟨_, _, _, _, hbuf⟩ := h
  rw [step_of_ready h, runCycle_of_not_rst hr hbuf]

/-- Everything that a step which answers can have done. -/
theorem step_next_cases {s t : State} (h : step s = .next t) :
    s.Ready ∧ (s.input.rst = true ∧ t = s.loadReset.nextCycle ∨ s.input.rst = false ∧ t = phaseNext s) := by
  have hs := ready_of_step_next h
  refine ⟨hs, ?_⟩
  cases hr : s.input.rst with
  | true => simpa [step_of_rst hs hr, eq_comm] using h
  | false => simpa [step_of_not_rst hs hr, eq_comm] using h
end Sys2Proof.Machine
end

section
/-! PROOF. The state of 10_state.md: its values at reset (R47), the invariants (R27), the widths (R20), and that no
cycle stops (R113). -/

namespace Sys2Proof.Machine

/-! ### What a cycle leaves in each register -/

@[simp] theorem phaseNext_params (s : State) : (phaseNext s).params = s.params := rfl
@[simp] theorem phaseNext_policy (s : State) : (phaseNext s).policy = s.policy := rfl
@[simp] theorem phaseNext_wd (s : State) : (phaseNext s).wd = phaseWd s := rfl

theorem phaseNext_buf (s : State) : (phaseNext s).buf =
    if s.input.capValid ∧ s.act ≠ .decode then phaseBuffer s ++ [s.capDur] else phaseBuffer s := rfl

theorem phaseNext_ch (s : State) : (phaseNext s).ch = if s.act = .decode then phaseVector s else s.ch := rfl

theorem phaseNext_chValid (s : State) : (phaseNext s).chValid = if s.act = .decode then true else s.chValid := rfl

theorem phaseNext_cmdSteer (s : State) : (phaseNext s).cmdSteer =
    if s.params.timeout < phaseWd s then s.params.neutralSteer else (phaseCommand s).1 := rfl

theorem phaseNext_cmdThr (s : State) : (phaseNext s).cmdThr =
    if s.params.timeout < phaseWd s then s.params.neutralThr else (phaseCommand s).2 := rfl

theorem phaseNext_ind (s : State) : (phaseNext s).ind =
    if s.params.timeout < phaseWd s then .failsafe else if s.act = .decode then .alive else s.ind := rfl

theorem phaseNext_outs (s : State) : (phaseNext s).outs = {
    decFire := decide (s.act = .decode)
    capPause := decide (s.act = .decode)
    decVec := if s.act = .decode then phaseVector s else List.replicate s.params.nCh 0
    indAliveStb := decide (s.act = .decode)
    indFsStb := decide (s.params.timeout < phaseWd s) } := rfl

/-! ### The buffer of the next state -/

theorem phaseNext_buf_length_le {s : State} (h : s.buf.length ≤ s.params.cap) :
    (phaseNext s).buf.length ≤ s.params.cap := by
  have := phaseBuffer_length_lt h
  rw [phaseNext_buf]
  split
  · simpa using this
  · exact this.le

theorem mem_phaseBuffer {s : State} {d : Nat} (h : d ∈ phaseBuffer s) : d ∈ s.buf := by
  unfold phaseBuffer at h
  split at h
  · exact List.mem_of_mem_tail h
  · simp at h
  · exact h

/-- An entry of the next buffer is an old one or the duration on the port. -/
theorem mem_phaseNext_buf {s : State} {d : Nat} (h : d ∈ (phaseNext s).buf) : d ∈ s.buf ∨ d = s.capDur := by
  rw [phaseNext_buf] at h
  split at h
  · rw [List.mem_append, List.mem_singleton] at h
    exact h.imp_left mem_phaseBuffer
  · exact .inl (mem_phaseBuffer h)

/-- (I2): a front entry with another behind it was never shorter than the sync threshold (10_state.md R27). -/
abbrev FrontIsGap (p : Params) (buf : Memory) : Prop := 2 ≤ buf.length → p.syncThr ≤ buf.getD 0 0

/-- A trim that leaves an entry would have had a short front with another behind it. -/
theorem phaseBuffer_front {s : State} (h : FrontIsGap s.params s.buf) :
    phaseBuffer s = [] ∨ s.params.syncThr ≤ (phaseBuffer s).getD 0 0 := by
  cases ha : s.act with
  | idle => exact .inl (by simpa [phaseBuffer, ha] using s.act_idle_iff.mp ha)
  | trim =>
    obtain ⟨d, l, hb, hlt⟩ := s.act_trim_iff.mp ha
    rcases l with _ | ⟨e, l⟩
    · exact .inl (by simp [phaseBuffer, ha, hb])
    · exact absurd (by simpa [FrontIsGap, hb] using h) hlt.not_ge
  | wait =>
    obtain ⟨d, l, hb, hle, -⟩ := s.act_wait_iff.mp ha
    exact .inr (by simpa [phaseBuffer, ha, hb] using hle)
  | decode => exact .inl (by simp [phaseBuffer, ha])

theorem phaseNext_front {s : State} (h : FrontIsGap s.params s.buf) : FrontIsGap s.params (phaseNext s).buf := by
  intro h2
  rw [phaseNext_buf] at h2 ⊢
  rcases hl : phaseBuffer s with _ | ⟨d, l⟩
  · rw [hl] at h2
    split at h2 <;> simp at h2
  · have hd : s.params.syncThr ≤ d := by simpa [hl] using phaseBuffer_front h
    split <;> simpa using hd

/-! ### The channel register and the indicator of the next state -/

theorem phaseNext_ch_le_scale {s : State} (h : ∀ c ∈ s.ch, c ≤ s.params.scale) :
    ∀ c ∈ (phaseNext s).ch, c ≤ s.params.scale := by
  rw [phaseNext_ch]
  split
  · exact phaseVector_le_scale s
  · exact h

theorem phaseNext_ind_ne_reserved {s : State} (h : s.ind ≠ .reserved) : (phaseNext s).ind ≠ .reserved := by
  rw [phaseNext_ind]
  split_ifs
  · simp
  · simp
  · exact h

/-! ### What fits its width -/

theorem lt_two_pow_bitLength (n : Nat) : n < 2 ^ bitLength n := by
  unfold bitLength
  split
  · simp [*]
  · exact Nat.lt_log2_self

theorem neutralSteer_lt {p : Params} (h : p.Legal) : p.neutralSteer < 2 ^ p.steerW := by
  obtain ⟨-, -, -, -, -, hw, -, hn, -⟩ := h
  calc p.neutralSteer < 2 ^ 18 := by omega
    _ ≤ 2 ^ p.steerW := Nat.pow_le_pow_right (by decide) hw

/-- A throttle code of `w` bits, two's complement (30_encoding.md R89). -/
abbrev ThrFits (w : Nat) (thr : Int) : Prop := -(2 ^ (w - 1) : Int) ≤ thr ∧ thr < (2 ^ (w - 1) : Int)

theorem neutralThr_fits {p : Params} (h : p.Legal) : ThrFits p.thrW p.neutralThr := by
  obtain ⟨-, -, -, -, -, -, hw, -, hlo, hhi⟩ := h
  have hpow : (2 : Int) ^ 11 ≤ 2 ^ (p.thrW - 1) := pow_le_pow_right₀ (by decide) (by omega)
  constructor <;> omega

/-! ### Reset

RESET_STATE under any environment: `State.resetWith` is the one that has placed nothing, and a reset cycle leaves what its
environment has placed. -/

theorem resetWith_inv (p : Params) (q : Policy) (l : List Inputs) (n : Nat) :
    State.Inv { State.resetWith p q with pending := l, cycle := n } := by
  constructor <;> simp [State.resetWith]

theorem resetWith_legalValues (p : Params) (q : Policy) (l : List Inputs) (n : Nat) :
    State.LegalValues { State.resetWith p q with pending := l, cycle := n } := by
  simp [State.LegalValues, State.resetWith]

theorem resetWith_typed {p : Params} (h : p.Legal) (q : Policy) (l : List Inputs) (n : Nat) :
    State.Typed { State.resetWith p q with pending := l, cycle := n } where
  buf := State.resetWith_wf p q
  chLen := List.length_replicate
  chWidth := by
    intro c hc
    rw [List.eq_of_mem_replicate hc]
    positivity
  steer := neutralSteer_lt h
  thrLow := (neutralThr_fits h).1
  thrHigh := (neutralThr_fits h).2
  wd := Nat.two_pow_pos _
  ind := by simp [State.resetWith]
  decVecLen := List.length_replicate

/-- Settles O1: it holds, register by register from the definition of RESET_STATE. -/
theorem resetStateValues : Obligations.ResetStateValues := by
  unfold Obligations.ResetStateValues
  refine ⟨fun p q => ?_, ⟨.external, rfl⟩, rfl, rfl, rfl⟩
  have hch : ∀ i, i < p.nCh → (State.resetWith p q).ch[i]? = some 0 := fun i hi => List.getElem?_replicate_of_lt hi
  have hfs : (State.resetWith p q).failsafe = false := by simp [State.failsafe, State.resetWith]
  exact ⟨rfl, hch, rfl, ⟨rfl, rfl⟩, rfl, rfl, hfs, rfl, rfl⟩

/-- Settles O4: it holds for every legal block, and State.reset is one. -/
theorem invariantsHoldAtReset : Obligations.InvariantsHoldAtReset := by
  unfold Obligations.InvariantsHoldAtReset
  have hreset : ∀ (p : Params) (q : Policy), p.Legal → q.Allowed p →
      (State.resetWith p q).Inv ∧ (State.resetWith p q).Ready ∧ (State.resetWith p q).Typed :=
    fun p q hp hq =>
      ⟨resetWith_inv p q [] 0, ⟨⟨hp, hq⟩, resetWith_legalValues p q [] 0⟩, resetWith_typed hp q [] 0⟩
  exact ⟨hreset, hreset .default .external (by decide) (by decide)⟩

/-! ### The invariants -/

/-- In a cycle without override and without decode the indicator stays, and it was not FAILSAFE: the count of such a
cycle only grows (44_watchdog.md R203). -/
theorem State.Inv.ind_ne_failsafe {s : State} (h : s.Inv) (hd : s.act ≠ .decode) (hw : ¬ s.params.timeout < phaseWd s) :
    s.ind ≠ .failsafe := by
  rw [Ne, h.indFailsafe]
  have := le_phaseWd hd h.wdRange
  omega

theorem phaseNext_inv {s : State} (h : s.Inv) : (phaseNext s).Inv where
  bufLen := phaseNext_buf_length_le h.bufLen
  front := phaseNext_front h.front
  wdRange := phaseWd_le h.wdRange
  indFailsafe := by
    rw [phaseNext_ind, phaseNext_params, phaseNext_wd]
    split_ifs with hw hd
    · simpa using hw
    · simpa using hw
    · simpa [h.ind_ne_failsafe hd hw] using hw
  neutral := by
    intro hw
    simp only [phaseNext_params, phaseNext_wd] at hw
    simp [State.CommandNeutral, phaseNext_cmdSteer, phaseNext_cmdThr, hw]
  chRange := phaseNext_ch_le_scale h.chRange
  indNone := by
    rw [phaseNext_ind, phaseNext_chValid]
    split_ifs
    · simp
    · simp
    · simp
    · exact h.indNone

/-- Settles O5: it holds, since RESET_STATE meets the invariants and the phases of R111 keep each of them. -/
theorem stepKeepsInvariants : Obligations.StepKeepsInvariants := by
  unfold Obligations.StepKeepsInvariants
  intro s t hs ht
  obtain ⟨-, ⟨-, rfl⟩ | ⟨-, rfl⟩⟩ := step_next_cases ht
  · exact resetWith_inv _ _ _ _
  · exact phaseNext_inv hs

/-! ### No cycle stops -/

theorem phaseNext_legalValues {s : State} (h : s.LegalValues) : (phaseNext s).LegalValues := by
  obtain ⟨hind, hch, hwd, hbuf⟩ := h
  exact ⟨phaseNext_ind_ne_reserved hind, phaseNext_ch_le_scale hch, phaseWd_le hwd, phaseNext_buf_length_le hbuf⟩

/-- Settles O7: it holds, since a cycle that can run is RESET or the phases of R111, and both leave legal values. -/
theorem cycleNeverStops : Obligations.CycleNeverStops := by
  unfold Obligations.CycleNeverStops
  intro s hs
  cases hr : s.input.rst with
  | true => exact ⟨_, step_of_rst hs hr, ⟨hs.1, resetWith_legalValues _ _ _ _⟩, rfl, rfl⟩
  | false => exact ⟨_, step_of_not_rst hs hr, ⟨hs.1, phaseNext_legalValues hs.2⟩, rfl, rfl⟩

/-! ### The widths -/

/-- The policy's ports have the command register's widths (10_state.md R43). -/
theorem policyPorts_update_fits {p : Params} {r : PolicyResult} {steer : Nat} {thr : Int}
    (h : policyPorts p r = .update steer thr) : steer < 2 ^ p.steerW ∧ ThrFits p.thrW thr := by
  cases r with
  | hold => simp [policyPorts] at h
  | update a b =>
    obtain ⟨rfl, rfl⟩ := by simpa [policyPorts] using h
    rw [← BitVec.toInt_ofInt]
    exact ⟨Nat.mod_lt _ (Nat.two_pow_pos _), BitVec.le_toInt _, BitVec.toInt_lt⟩

theorem phaseCommand_fits {s : State} (h : s.Typed) :
    (phaseCommand s).1 < 2 ^ s.params.steerW ∧ ThrFits s.params.thrW (phaseCommand s).2 := by
  unfold phaseCommand
  split
  · rename_i hu
    exact policyPorts_update_fits hu
  · exact ⟨h.steer, h.thrLow, h.thrHigh⟩

theorem phaseNext_command_fits {s : State} (h : s.Typed) (hp : s.params.Legal) :
    (phaseNext s).cmdSteer < 2 ^ s.params.steerW ∧ ThrFits s.params.thrW (phaseNext s).cmdThr := by
  rw [phaseNext_cmdSteer, phaseNext_cmdThr]
  split
  · exact ⟨neutralSteer_lt hp, neutralThr_fits hp⟩
  · exact phaseCommand_fits h

theorem phaseNext_typed {s : State} (h : s.Typed) (hp : s.params.Legal) (hw : s.wd ≤ s.params.timeout + 1) :
    (phaseNext s).Typed where
  buf := by
    refine ⟨phaseNext_buf_length_le h.buf.1, fun d hd => ?_⟩
    obtain hd | rfl := mem_phaseNext_buf hd
    · exact h.buf.2 d hd
    · exact s.capDur_lt
  chLen := by
    rw [phaseNext_ch]
    split
    · simp
    · exact h.chLen
  chWidth := by
    rw [phaseNext_ch]
    split
    · exact fun c hc => (phaseVector_le_scale s c hc).trans_lt (lt_two_pow_bitLength _)
    · exact h.chWidth
  steer := (phaseNext_command_fits h hp).1
  thrLow := (phaseNext_command_fits h hp).2.1
  thrHigh := (phaseNext_command_fits h hp).2.2
  wd := (phaseWd_le hw).trans_lt (lt_two_pow_bitLength _)
  ind := phaseNext_ind_ne_reserved h.ind
  decVecLen := by
    rw [phaseNext_outs]
    dsimp only
    split <;> simp

/-- Settles O6: it holds; what a cycle writes is NEUTRAL, computed within its width, or cut to a port's wires. -/
theorem stepKeepsFieldWidths : Obligations.StepKeepsFieldWidths := by
  unfold Obligations.StepKeepsFieldWidths
  intro s t hs ht
  obtain ⟨⟨⟨hp, -⟩, -, -, hw, -⟩, ⟨-, rfl⟩ | ⟨-, rfl⟩⟩ := step_next_cases ht
  · exact resetWith_typed hp _ _ _
  · exact phaseNext_typed hs hp hw

end Sys2Proof.Machine
end

section
/-! PROOF. The ports of 10_state.md R44 and R45: the codes they show, and that a cycle drives the Mealy outputs of the
table. -/

namespace Sys2Proof.Machine

/-! ### Buses of channel codes (30_encoding.md R87) -/

theorem packBus_lt (w : Nat) (codes : List Nat) : packBus w codes < 2 ^ (codes.length * w) := by
  induction codes with
  | nil => simp [packBus]
  | cons c cs ih =>
    have hc : c % 2 ^ w < 2 ^ w := Nat.mod_lt _ (Nat.two_pow_pos w)
    calc packBus w (c :: cs) = c % 2 ^ w + 2 ^ w * packBus w cs := rfl
      _ < 2 ^ w * (packBus w cs + 1) := by rw [Nat.mul_add_one]; omega
      _ ≤ 2 ^ w * 2 ^ (cs.length * w) := Nat.mul_le_mul_left _ ih
      _ = 2 ^ ((c :: cs).length * w) := by rw [← pow_add, List.length_cons]; congr 1; ring

/-- Channel `i` stands in the `i`-th lane of `w` bits. -/
theorem packBus_lane {w : Nat} {codes : List Nat} {i c : Nat} (hi : codes[i]? = some c) (hc : c < 2 ^ w) :
    packBus w codes / 2 ^ (i * w) % 2 ^ w = c := by
  induction codes generalizing i with
  | nil => simp at hi
  | cons a cs ih =>
    cases i with
    | zero =>
      obtain rfl : a = c := by simpa using hi
      simp [packBus, Nat.mod_eq_of_lt hc]
    | succ i =>
      have hlane : packBus w (a :: cs) / 2 ^ w = packBus w cs := by
        rw [packBus, Nat.add_mul_div_left _ _ (Nat.two_pow_pos w), Nat.div_eq_of_lt (Nat.mod_lt _ (Nat.two_pow_pos w)),
          Nat.zero_add]
      rw [Nat.succ_mul, Nat.add_comm, pow_add, ← Nat.div_div_eq_div_mul, hlane]
      exact ih (by simpa using hi)

/-- A bus of as many codes as it has lanes is its bits. -/
theorem busPort_lane {n w : Nat} {codes : List Nat} {i c : Nat} (hl : codes.length = n) (hi : codes[i]? = some c)
    (hc : c < 2 ^ w) : (BitVec.ofNat (n * w) (packBus w codes)).toNat / 2 ^ (i * w) % 2 ^ w = c := by
  subst hl
  rw [BitVec.toNat_ofNat, Nat.mod_eq_of_lt (packBus_lt w codes), packBus_lane hi hc]

/-! ### The codes of the indicator and of the decoder's state -/

theorem Indicator.code_injective : Function.Injective Indicator.code := by
  intro a b h
  cases a <;> cases b <;> simp [Indicator.code] at h ⊢

theorem DecState.code_injective : Function.Injective DecState.code := by
  intro a b h
  cases a <;> cases b <;> simp [DecState.code] at h ⊢

theorem DecState.code_ne_three (d : DecState) : d.code ≠ 0b11 := by
  cases d <;> decide

theorem State.decState_searching_iff (s : State) :
    s.decState = .searching ↔ s.buf.length = 0 ∨ s.buf.getD 0 0 < s.params.syncThr := by
  unfold State.decState
  grind

theorem State.decState_synced_iff (s : State) : s.decState = .synced ↔
    1 ≤ s.buf.length ∧ s.params.syncThr ≤ s.buf.getD 0 0 ∧ s.buf.length < s.params.cap := by
  unfold State.decState
  grind

theorem State.decState_decoding_iff {s : State} (h : s.buf.length ≤ s.params.cap) : s.decState = .decoding ↔
    s.params.syncThr ≤ s.buf.getD 0 0 ∧ s.buf.length = s.params.cap := by
  have hcap : 0 < s.params.cap := by simp [Params.cap]
  unfold State.decState
  grind

/-! ### The command ports -/

theorem State.cmdSteerPort_toNat {s : State} (h : s.Typed) : s.cmdSteerPort.toNat = s.cmdSteer := by
  rw [State.cmdSteerPort, BitVec.toNat_ofNat, Nat.mod_eq_of_lt h.steer]

theorem State.cmdThrPort_toInt {s : State} (hp : s.params.Legal) (h : s.Typed) : s.cmdThrPort.toInt = s.cmdThr := by
  obtain ⟨-, -, -, -, -, -, hw, -⟩ := hp
  exact BitVec.toInt_ofInt_eq_self (by omega) h.thrLow h.thrHigh

theorem State.cmdThrPort_toNat (s : State) : s.cmdThrPort.toNat = (s.cmdThr % (2 ^ s.params.thrW : Nat)).toNat :=
  BitVec.toNat_ofInt _

theorem State.bufLenPort_toNat {s : State} (h : s.Typed) : s.bufLenPort.toNat = s.buf.length := by
  have hlt : s.buf.length < 2 ^ lenW s.params := h.buf.1.trans_lt (lt_two_pow_bitLength _)
  rw [State.bufLenPort, BitVec.toNat_ofNat, Nat.mod_eq_of_lt hlt]

theorem ofBool_eq_one_iff (b : Bool) : BitVec.ofBool b = 1 ↔ b = true := by
  cases b <;> decide

/-- Settles O20: it holds, port by port; a register that fits its width is read back from its port. -/
theorem portCodes : Obligations.PortCodes := by
  unfold Obligations.PortCodes
  intro s hp hs
  have hind (i : Indicator) : s.indPort = i.code ↔ s.ind = i := Indicator.code_injective.eq_iff
  have hdec (d : DecState) : s.decStatePort = d.code ↔ s.decState = d := DecState.code_injective.eq_iff
  refine ⟨State.cmdSteerPort_toNat hs, State.cmdThrPort_toInt hp hs, fun hw ht => ?_, fun hw ht => ?_,
    hind .none, hind .alive, hind .failsafe, (hind .reserved).not.mpr hs.ind,
    (hdec .searching).trans s.decState_searching_iff, (hdec .synced).trans s.decState_synced_iff,
    (hdec .decoding).trans (State.decState_decoding_iff hs.buf.1), s.decState.code_ne_three,
    ofBool_eq_one_iff _, (ofBool_eq_one_iff _).trans decide_eq_true_iff, State.bufLenPort_toNat hs,
    fun i c hi => busPort_lane hs.chLen hi (hs.chWidth c (List.mem_of_getElem? hi)),
    fun i c hi hc => busPort_lane hs.decVecLen hi hc⟩
  · rw [State.cmdThrPort_toNat, hw, ht]
    decide
  · rw [State.cmdThrPort_toNat, hw, ht]
    decide

/-! ### The Mealy outputs of R45, from the state at the cycle's start -/

theorem State.mealyOutputs_of_rst {s : State} (hr : s.input.rst = true) : s.mealyOutputs = .quiet s.params := by
  simp [State.mealyOutputs, hr, CycleOutputs.quiet]

theorem State.mealyOutputs_of_not_rst {s : State} (hr : s.input.rst = false) : s.mealyOutputs = (phaseNext s).outs := by
  by_cases hd : s.act = .decode
  · simp [State.mealyOutputs, phaseNext_outs, hr, hd, State.decodeVector_eq_phaseVector hd, phaseWd_of_decode hd]
  · simp [State.mealyOutputs, phaseNext_outs, hr, hd, State.expires_eq hd]

/-- Settles O24: it holds, in a reset cycle, a decode cycle and any other. -/
theorem cycleDrivesItsMealyOutputs : Obligations.CycleDrivesItsMealyOutputs := by
  unfold Obligations.CycleDrivesItsMealyOutputs
  intro s t ht
  obtain ⟨-, ⟨hr, rfl⟩ | ⟨hr, rfl⟩⟩ := step_next_cases ht
  · rw [State.mealyOutputs_of_rst hr]
    simp [hr, CycleOutputs.quiet]
  · rw [State.mealyOutputs_of_not_rst hr]
    by_cases hd : s.act = .decode
    · simp [phaseNext_outs, hr, hd, State.decodeVector_eq_phaseVector hd, phaseWd_of_decode hd]
    · simp [phaseNext_outs, hr, hd]

end Sys2Proof.Machine
end

section
/-! PROOF. What a cycle does not read: `cap_dur` beside `cap_valid = 0` (10_state.md R41) and the channel register
(R30). -/

namespace Sys2Proof.Machine

/-- The only place where R111 reads `cap_dur` is the push. -/
theorem phaseNext_capDur (s : State) {i : Inputs} (d : Nat) (rest : List Inputs) (hv : i.capValid = false) :
    phaseNext { s with pending := i :: rest } = phaseNext { s with pending := { i with capDur := d } :: rest } := by
  have hbuf (j : Inputs) (hj : j.capValid = false) :
      (phaseNext { s with pending := j :: rest }).buf = phaseBuffer s := by
    rw [phaseNext_buf]
    exact if_neg (by simp [State.input, hj])
  ext1
  case buf => exact (hbuf i hv).trans (hbuf { i with capDur := d } hv).symm
  all_goals rfl

theorem runCycle_capDur {s : State} {i : Inputs} (d : Nat) (rest : List Inputs) (hl : s.buf.length ≤ s.params.cap)
    (hv : i.capValid = false) :
    runCycle { s with pending := i :: rest } = runCycle { s with pending := { i with capDur := d } :: rest } := by
  by_cases hr : i.rst = true
  · rw [runCycle_of_rst (by exact hr), runCycle_of_rst (by exact hr)]
    rfl
  · rw [Bool.not_eq_true] at hr
    rw [runCycle_of_not_rst (by exact hr) (by exact hl),
      runCycle_of_not_rst (by exact hr) (by exact hl), phaseNext_capDur s d rest hv]

/-- Settles O51: the checks before the cycle read no input, and the cycle itself is the same. -/
theorem durationIgnoredWithoutValid : Obligations.DurationIgnoredWithoutValid := by
  unfold Obligations.DurationIgnoredWithoutValid
  intro s i d rest hv
  simp only [step, cycle]
  split_ifs with he hl
  · obtain ⟨-, -, -, hbuf⟩ := hl
    exact runCycle_capDur d rest hbuf hv
  · rfl
  · rfl

/-- With another channel register the cycle selects and does the same. -/
theorem phaseNext_channels (s : State) (vec : List Nat) (v : Bool) :
    phaseNext { s with ch := vec, chValid := v } =
      { phaseNext s with
        ch := if s.act = .decode then phaseVector s else vec
        chValid := if s.act = .decode then true else v } := rfl

theorem ready_channels {s : State} {vec : List Nat} (v : Bool) (h : s.Ready) (hvec : ∀ c ∈ vec, c ≤ s.params.scale) :
    State.Ready { s with ch := vec, chValid := v } := by
  obtain ⟨hel, hind, -, hwd, hbuf⟩ := h
  exact ⟨hel, hind, hvec, hwd, hbuf⟩

/-- Settles O53: it holds, since neither RESET nor the phases of R111 read `ch` or `ch_valid`. -/
theorem channelRegisterIsNeverReadBack : Obligations.ChannelRegisterIsNeverReadBack := by
  unfold Obligations.ChannelRegisterIsNeverReadBack
  intro s t vec v hvec ht
  obtain ⟨hs, ⟨hr, rfl⟩ | ⟨hr, rfl⟩⟩ := step_next_cases ht
  · exact ⟨_, step_of_rst (ready_channels v hs hvec) hr, rfl, fun _ => rfl⟩
  · refine ⟨_, step_of_not_rst (ready_channels v hs hvec) hr, rfl, ?_⟩
    rintro (hrst | hd)
    · simp [hr] at hrst
    · simp [phaseNext_channels, hd, State.ext_iff, phaseNext_ch, phaseNext_chValid]

end Sys2Proof.Machine
end

section
/-! PROOF. The buffer over one cycle: cleared by a decode cycle (20_memory.md R70), else popped and then pushed
(R71). -/

namespace Sys2Proof.Machine

/-! ### The buffer that phase 3 leaves, by the decoder's action -/

theorem phaseBuffer_of_decode {s : State} (hd : s.act = .decode) : phaseBuffer s = [] := by
  simp [phaseBuffer, hd]

theorem phaseBuffer_of_not_decode {s : State} (hd : s.act ≠ .decode) :
    phaseBuffer s = if s.act = .trim then s.buf.tail else s.buf := by
  cases ha : s.act with
  | decode => exact absurd ha hd
  | idle | trim | wait => simp [phaseBuffer, ha]

theorem phaseNext_buf_of_decode {s : State} (hd : s.act = .decode) : (phaseNext s).buf = [] := by
  simp [phaseNext_buf, hd, phaseBuffer_of_decode hd]

/-- `b1` of R71, and the push behind it. -/
theorem phaseNext_buf_of_not_decode {s : State} (hd : s.act ≠ .decode) :
    (phaseNext s).buf = (if s.act = .trim then s.buf.tail else s.buf) ++
      (if s.input.capValid then [s.capDur] else []) := by
  rw [phaseNext_buf, ← phaseBuffer_of_not_decode hd]
  cases s.input.capValid <;> simp [hd]

/-! ### The pause bracket -/

theorem State.capPause_eq_true_iff (s : State) :
    s.mealyOutputs.capPause = true ↔ s.act = .decode ∧ s.input.rst = false := by
  simp [State.mealyOutputs]

/-- The buffer is empty after a decode action whatever the inputs: RESET clears it too (70_reset_and_hazards.md
R270). -/
theorem step_buf_of_decode {s t : State} (hd : s.act = .decode) (ht : step s = .next t) : t.buf = [] := by
  obtain ⟨-, ⟨-, rfl⟩ | ⟨-, rfl⟩⟩ := step_next_cases ht
  · rfl
  · exact phaseNext_buf_of_decode hd

/-- An empty buffer selects IDLE, so no pause follows a decode cycle directly. -/
theorem State.capPause_of_buf_nil {s : State} (hb : s.buf = []) : s.mealyOutputs.capPause = false := by
  simp [State.mealyOutputs, State.act_of_nil hb]

/-- Settles O25: a decode cycle clears the buffer under any input, and the next action is IDLE. -/
theorem pauseBracket : Obligations.PauseBracket := by
  unfold Obligations.PauseBracket
  intro s t ht _
  refine ⟨Iff.rfl, fun hp => ?_, fun hp i u _ hu => ?_⟩
  · obtain ⟨hd, -⟩ := s.capPause_eq_true_iff.mp hp
    have hb : t.buf = [] := step_buf_of_decode hd ht
    exact ⟨hb, State.capPause_of_buf_nil hb⟩
  · obtain ⟨hd, -⟩ := s.capPause_eq_true_iff.mp hp
    exact step_buf_of_decode (s := { s with pending := i :: s.pending.tail }) hd hu

/-! ### Pop, then push -/

/-- The decoder's action reads the buffer, and the parameters that are fixed at elaboration (30_encoding.md R93). -/
theorem State.act_congr {s u : State} (hp : u.params = s.params) (hb : u.buf = s.buf) : u.act = s.act := by
  simp [State.act, State.bufFront, hp, hb]

/-- A trim takes one entry, as many as a push brings. -/
theorem State.length_tail_of_act_trim {s : State} (ha : s.act = .trim) : s.buf.tail.length + 1 = s.buf.length := by
  obtain ⟨d, l, hb, -⟩ := s.act_trim_iff.mp ha
  simp [hb]

/-- Settles O38: the next buffer is that of phase 3 with the push behind it, and a trim makes room for exactly one
entry. -/
theorem bufferOfTheNextCycle : Obligations.BufferOfTheNextCycle := by
  unfold Obligations.BufferOfTheNextCycle
  refine ⟨fun s t ht hr hd => ?_, fun s u hp hb => State.act_congr hp hb⟩
  obtain rfl : phaseNext s = t := by
    simpa [step_of_not_rst (ready_of_step_next ht) hr] using ht
  refine ⟨phaseNext_buf_of_not_decode hd, fun ha hv hl => ?_⟩
  calc (phaseNext s).buf.length = s.buf.tail.length + 1 := by simp [phaseNext_buf_of_not_decode hd, ha, hv]
    _ = s.params.cap := (State.length_tail_of_act_trim ha).trans hl

end Sys2Proof.Machine
end

section
/-! PROOF. The decoder against the operation map (30_encoding.md R95 to R97): a unit answers with an operation exactly
when the word has the operation's pattern, and everything about decoding and encoding a word follows from that. -/

namespace Sys2Proof

/-! ### A row of the operation map and the words it selects -/

theorem OpRow.selects_iff (r : OpRow) (w : ConditionWord) : r.selects w = true ↔ w &&& r.mask = r.bits := by
  simp [OpRow.selects]

/-- A word that a row selects has the row's value in every place that the row's pattern fixes. -/
theorem OpRow.getLsbD_of_selects {r : OpRow} {w : ConditionWord} {k : Nat} (h : r.selects w = true)
    (hk : r.mask.getLsbD k = true) : w.getLsbD k = r.bits.getLsbD k := by
  simp [← (r.selects_iff w).mp h, hk]

theorem Instr.row_op (i : Instr) : i.row.op = i := by
  cases i <;> rfl

theorem Instr.row_mem (i : Instr) : i.row ∈ opTable := by
  cases i <;> decide

theorem row_of_mem_opTable : ∀ r ∈ opTable, r.op.row = r := by
  decide

/-- A pattern asks for nothing in its don't-care places. -/
theorem Instr.row_bits_and_mask (i : Instr) : i.row.bits &&& i.row.mask = i.row.bits := by
  cases i <;> rfl

theorem row_selects_encode (i : Instr) (fill : ConditionWord) : i.row.selects (encode i fill) = true := by
  have hfill : fill &&& ~~~i.row.mask &&& i.row.mask = 0 := by
    ext k
    simp
  rw [OpRow.selects_iff, encode, BitVec.and_or_distrib_right, hfill, i.row_bits_and_mask]
  simp

/-- The patterns of one unit exclude each other: two rows that select one word are disjoint in no place. -/
theorem row_eq_of_selects {r q : OpRow} {w : ConditionWord} (hr : r ∈ opTable) (hq : q ∈ opTable)
    (hu : r.op.opUnit = q.op.opUnit) (hrw : r.selects w = true) (hqw : q.selects w = true) : r = q := by
  have symm : Std.Symm (fun r q : OpRow => r.op.opUnit = q.op.opUnit → r.bits &&& q.mask ≠ q.bits &&& r.mask) :=
    ⟨fun _ _ h hu hb => h hu.symm hb.symm⟩
  by_contra hne
  refine opTable_rows_disjoint.forall hr hq hne hu ?_
  rw [← (r.selects_iff w).mp hrw, ← (q.selects_iff w).mp hqw, BitVec.and_assoc, BitVec.and_assoc,
    BitVec.and_comm r.mask]

/-! ### A unit's answer -/

theorem decodeUnit_eq_some_iff (u : OpUnit) (w : ConditionWord) (i : Instr) :
    decodeUnit u w = some i ↔ i.opUnit = u ∧ i.row.selects w = true := by
  constructor
  · intro h
    obtain ⟨r, hfind, rfl⟩ := Option.map_eq_some_iff.mp h
    have hsel := List.find?_some hfind
    rw [row_of_mem_opTable r (List.mem_of_find?_eq_some hfind)]
    simpa using hsel
  · rintro ⟨rfl, hi⟩
    obtain ⟨r, hfind⟩ : ∃ r, opTable.find? (fun r => decide (r.op.opUnit = i.opUnit) && r.selects w) = some r :=
      Option.isSome_iff_exists.mp (List.find?_isSome.mpr ⟨i.row, i.row_mem, by simp [i.row_op, hi]⟩)
    have hsel : r.op.opUnit = i.opUnit ∧ r.selects w = true := by simpa using List.find?_some hfind
    obtain rfl : r = i.row := row_eq_of_selects (List.mem_of_find?_eq_some hfind) i.row_mem
      (by rw [i.row_op]; exact hsel.1) hsel.2 hi
    simp [decodeUnit, hfind, i.row_op]

/-- Where a unit answers, the answer is the operation whose pattern the word has. -/
theorem eq_iff_of_decodeUnit {u : OpUnit} {w : ConditionWord} {d i : Instr} (h : decodeUnit u w = some d)
    (hi : i.opUnit = u) : d = i ↔ w &&& i.row.mask = i.row.bits := by
  rw [← OpRow.selects_iff]
  calc d = i ↔ decodeUnit u w = some i := by rw [h, Option.some_inj]
    _ ↔ i.row.selects w = true := by simp [decodeUnit_eq_some_iff, hi]

/-- Where a unit answers, one of its rows selects the word and no other. -/
theorem length_rows_of_decodeUnit {u : OpUnit} {w : ConditionWord} {i : Instr} (h : decodeUnit u w = some i) :
    (opTable.filter (fun r => decide (r.op.opUnit = u) && r.selects w)).length = 1 := by
  obtain ⟨rfl, hi⟩ := (decodeUnit_eq_some_iff u w i).mp h
  have hnodup : opTable.Nodup := by decide
  rw [List.length_eq_one_iff]
  refine ⟨i.row, (List.perm_singleton.mp ((List.perm_ext_iff_of_nodup (hnodup.filter _)
    (List.nodup_singleton _)).mpr fun r => ?_))⟩
  simp only [List.mem_filter, Bool.and_eq_true, decide_eq_true_eq, List.mem_singleton]
  constructor
  · rintro ⟨hr, hu, hrw⟩
    exact row_eq_of_selects hr i.row_mem (by rw [i.row_op]; exact hu) hrw hi
  · rintro rfl
    exact ⟨i.row_mem, by rw [i.row_op], hi⟩

/-! ### The decoder's answer for a whole word -/

theorem legalWord_iff (w : ConditionWord) : legalWord w = true ↔
    (w.getLsbD 0).toNat + (w.getLsbD 1).toNat + (w.getLsbD 2).toNat ≤ 1 ∧
      (w.getLsbD 7 = true → w.getLsbD 0 = true) := by
  rw [legalWord, Option.isNone_iff_eq_none, CwBits.check_none_iff]
  rfl

theorem decode_of_rst {w : ConditionWord} (hr : w.getLsbD 6 = true) : decode w = .ok .reset := by
  rw [← CwBits.toWord_ofWord w]
  exact decode_toWord_reset _ hr

theorem exists_decode_of_legalWord {w : ConditionWord} (hl : legalWord w = true) (hr : w.getLsbD 6 = false) :
    ∃ d c t o, decode w = .ok (.ops d c t o) := by
  have h := decode_toWord_ops (CwBits.ofWord w) hr (Option.isNone_iff_eq_none.mp hl)
  rw [CwBits.toWord_ofWord] at h
  exact ⟨_, _, _, _, h⟩

theorem exists_error_of_not_legalWord {w : ConditionWord} (hl : ¬ legalWord w = true) (hr : w.getLsbD 6 = false) :
    ∃ e, decode w = .error e := by
  have hrst : (CwBits.ofWord w).rst = false := hr
  obtain ⟨e, he⟩ := Option.ne_none_iff_exists'.mp fun hc => hl (Option.isNone_iff_eq_none.mpr hc)
  exact ⟨e, by simp [decode, hrst, he]⟩

theorem decode_eq_reset_iff (w : ConditionWord) : decode w = .ok .reset ↔ w.getLsbD 6 = true := by
  refine ⟨fun h => ?_, decode_of_rst⟩
  by_contra hr
  rw [Bool.not_eq_true] at hr
  by_cases hl : legalWord w = true
  · obtain ⟨d, c, t, o, hops⟩ := exists_decode_of_legalWord hl hr
    simp [hops] at h
  · obtain ⟨e, he⟩ := exists_error_of_not_legalWord hl hr
    simp [he] at h

theorem exists_error_iff {w : ConditionWord} (hr : w.getLsbD 6 = false) :
    (∃ e, decode w = .error e) ↔ ¬ legalWord w = true := by
  refine ⟨fun ⟨e, he⟩ hl => ?_, fun hl => exists_error_of_not_legalWord hl hr⟩
  obtain ⟨d, c, t, o, hops⟩ := exists_decode_of_legalWord hl hr
  simp [hops] at he

/-- A decoded bundle holds each unit's own answer. -/
theorem decodeUnit_of_decode {w : ConditionWord} {d c t o : Instr} (h : decode w = .ok (.ops d c t o)) :
    decodeUnit .decoder w = some d ∧ decodeUnit .capture w = some c ∧ decodeUnit .watchdog w = some t ∧
      decodeUnit .output w = some o := by
  unfold decode at h
  split at h
  · simp at h
  · split at h
    · simp at h
    · split at h
      next hd hc ht ho =>
        simp only [Except.ok.injEq, Bundle.ops.injEq] at h
        obtain ⟨rfl, rfl, rfl, rfl⟩ := h
        exact ⟨hd, hc, ht, ho⟩
      next => simp at h

/-! ### Well-formed bundles -/

/-- The operations of a unit that fix `CW[0]` to `b`, or leave it free (`none`), from the operation map. -/
def unitOps (u : OpUnit) (b : Option Bool) : List Instr :=
  (opTable.map OpRow.op).filter (fun i => decide (i.opUnit = u) && decide (i.inDecodeCycle = b))

theorem mem_unitOps_iff (u : OpUnit) (b : Option Bool) (i : Instr) :
    i ∈ unitOps u b ↔ i.opUnit = u ∧ i.inDecodeCycle = b := by
  have hi : i ∈ opTable.map OpRow.op := List.mem_map.mpr ⟨i.row, i.row_mem, i.row_op⟩
  simp [unitOps, hi]

/-- Only RESET and CAP_NONE go with either kind of cycle. -/
theorem Instr.inDecodeCycle_ne_none {i : Instr} (hall : i.opUnit ≠ .all) (hcap : i.opUnit ≠ .capture) :
    i.inDecodeCycle ≠ none := by
  cases i <;> simp_all [Instr.opUnit, Instr.inDecodeCycle]

/-- A bundle is well-formed when its units agree on `CW[0]`. -/
theorem Bundle.wellFormed_ops_iff (d c t o : Instr) :
    (Bundle.ops d c t o).wellFormed = true ↔ ∃ b : Bool, d ∈ unitOps .decoder (some b) ∧
      (c ∈ unitOps .capture none ∨ c ∈ unitOps .capture (some b)) ∧ t ∈ unitOps .watchdog (some b) ∧
      o ∈ unitOps .output (some b) := by
  simp only [mem_unitOps_iff, Bundle.wellFormed, Bool.and_eq_true, Bool.or_eq_true, decide_eq_true_eq]
  constructor
  · rintro ⟨⟨⟨⟨⟨⟨hd, hc⟩, ht⟩, ho⟩, hcd⟩, htd⟩, hod⟩
    obtain ⟨b, hb⟩ := Option.ne_none_iff_exists'.mp
      (Instr.inDecodeCycle_ne_none (i := d) (by simp [hd]) (by simp [hd]))
    rw [hb] at hcd htd hod
    exact ⟨b, ⟨hd, hb⟩, hcd.imp (⟨hc, ·⟩) (⟨hc, ·⟩), ⟨ht, htd⟩, ho, hod⟩
  · rintro ⟨b, ⟨hd, hdb⟩, hcb, ⟨ht, htb⟩, ho, hob⟩
    simp only [hd, hdb, ht, htb, ho, hob]
    tauto

theorem decode_encodeBundle_ops : ∀ b : Bool, ∀ d ∈ unitOps .decoder (some b),
    ∀ c ∈ unitOps .capture none ++ unitOps .capture (some b), ∀ t ∈ unitOps .watchdog (some b),
    ∀ o ∈ unitOps .output (some b), decode (encodeBundle (.ops d c t o)) = .ok (.ops d c t o) := by
  decide

theorem decode_encodeBundle {b : Bundle} (h : b.wellFormed = true) : decode (encodeBundle b) = .ok b := by
  cases b with
  | reset => rfl
  | ops d c t o =>
    obtain ⟨b, hd, hc, ht, ho⟩ := (Bundle.wellFormed_ops_iff d c t o).mp h
    exact decode_encodeBundle_ops b d hd c (List.mem_append.mpr hc) t ht o ho

/-- A row fixes `CW[0]` to whether its operation is one of a decode cycle, or leaves it free. -/
theorem inDecodeCycle_of_selects {i : Instr} {w : ConditionWord} (h : i.row.selects w = true) :
    i.inDecodeCycle = none ∨ i.inDecodeCycle = some (w.getLsbD 0) := by
  have hrow : i.inDecodeCycle = none ∨
      i.row.mask.getLsbD 0 = true ∧ i.inDecodeCycle = some (i.row.bits.getLsbD 0) := by
    cases i <;> decide
  exact hrow.imp_right fun ⟨hm, hi⟩ => by rw [hi, OpRow.getLsbD_of_selects h hm]

/-- A unit's answer agrees with the word's `CW[0]`, so the answers of all units agree. -/
theorem mem_unitOps_of_decodeUnit {u : OpUnit} {w : ConditionWord} {i : Instr} (h : decodeUnit u w = some i) :
    i ∈ unitOps u none ∨ i ∈ unitOps u (some (w.getLsbD 0)) := by
  obtain ⟨hu, hi⟩ := (decodeUnit_eq_some_iff u w i).mp h
  simpa only [mem_unitOps_iff, hu, true_and] using inDecodeCycle_of_selects hi

/-- What a word is decoded to is a well-formed bundle, and the word has the pattern of each of its operations. -/
theorem wellFormed_of_decode {w : ConditionWord} {b : Bundle} (h : decode w = .ok b) :
    b.wellFormed = true ∧ ∀ i ∈ b.instrs, i.row.selects w = true := by
  cases b with
  | reset =>
    have hr := (decode_eq_reset_iff w).mp h
    refine ⟨rfl, ?_⟩
    revert w
    decide
  | ops d c t o =>
    obtain ⟨hd, hc, ht, ho⟩ := decodeUnit_of_decode h
    have hwf : (Bundle.ops d c t o).wellFormed = true := (Bundle.wellFormed_ops_iff d c t o).mpr ⟨w.getLsbD 0,
      (mem_unitOps_of_decodeUnit hd).resolve_left List.not_mem_nil, mem_unitOps_of_decodeUnit hc,
      (mem_unitOps_of_decodeUnit ht).resolve_left List.not_mem_nil,
      (mem_unitOps_of_decodeUnit ho).resolve_left List.not_mem_nil⟩
    rw [decodeUnit_eq_some_iff] at hd hc ht ho
    exact ⟨hwf, by simp [Bundle.instrs, hd, hc, ht, ho]⟩

/-- Settles O12: a unit answers with the operation whose pattern a word has, and the bits that the operations of a
well-formed bundle ask for never collide. -/
theorem decodeEncodeAgree : Obligations.DecodeEncodeAgree := by
  unfold Obligations.DecodeEncodeAgree
  exact ⟨fun i fill _ => (decodeUnit_eq_some_iff _ _ i).mpr ⟨rfl, row_selects_encode i fill⟩,
    fun b => decode_encodeBundle, fun w b => wellFormed_of_decode⟩

/-- Settles O10: in a legal word without RST every unit answers, so its answer is told by its patterns. -/
theorem operationMap : Obligations.OperationMap := by
  unfold Obligations.OperationMap
  refine fun w => ⟨decode_of_rst, fun hl hr => ?_⟩
  obtain ⟨d, c, t, o, h⟩ := exists_decode_of_legalWord hl hr
  obtain ⟨hd, hc, ht, ho⟩ := decodeUnit_of_decode h
  refine ⟨⟨d, c, t, o, h,
    eq_iff_of_decodeUnit hd rfl, eq_iff_of_decodeUnit hd rfl, eq_iff_of_decodeUnit hd rfl, eq_iff_of_decodeUnit hd rfl,
    eq_iff_of_decodeUnit hc rfl, eq_iff_of_decodeUnit hc rfl, eq_iff_of_decodeUnit hc rfl,
    eq_iff_of_decodeUnit ht rfl, eq_iff_of_decodeUnit ht rfl, eq_iff_of_decodeUnit ht rfl,
    eq_iff_of_decodeUnit ho rfl, eq_iff_of_decodeUnit ho rfl, eq_iff_of_decodeUnit ho rfl,
    eq_iff_of_decodeUnit ho rfl⟩, ?_⟩
  simp only [List.forall_mem_cons, List.not_mem_nil, false_implies, implies_true, and_true]
  exact ⟨length_rows_of_decodeUnit hd, length_rows_of_decodeUnit hc, length_rows_of_decodeUnit ht,
    length_rows_of_decodeUnit ho⟩

/-- Settles O13: the vectors V-CW-1 to V-CW-7, and one word for each constraint of R96. -/
theorem conditionWordVectors : Obligations.ConditionWordVectors := by
  unfold Obligations.ConditionWordVectors
  decide

end Sys2Proof
end

section
/-! PROOF. The condition word of a state (30_encoding.md R93, R95): it is always legal (R96), it selects what the rules
of the units ask for, a step runs what it selects, and every legal word is that of some state. -/

namespace Sys2Proof.Machine

/-! ### The word's bits -/

@[simp] theorem State.ofWord_conditionWord (s : State) : CwBits.ofWord s.conditionWord = s.conditionBits :=
  CwBits.ofWord_toWord _

theorem State.conditionWord_legal (s : State) : legalWord s.conditionWord = true := by
  simp [legalWord, s.conditionBits_check]

theorem State.conditionWord_rst (s : State) : s.conditionWord.getLsbD 6 = s.input.rst :=
  congrArg CwBits.rst s.ofWord_conditionWord

theorem State.conditionWord_tk (s : State) : s.conditionWord.getLsbD 4 = s.input.usTick :=
  congrArg CwBits.tk s.ofWord_conditionWord

theorem State.conditionWord_exp (s : State) : s.conditionWord.getLsbD 5 = s.expires :=
  congrArg CwBits.exp s.ofWord_conditionWord

/-! ### No illegal word -/

/-- The two checks before a cycle raise other outcomes, and a cycle that runs does not fault. -/
theorem step_ne_illegalCW (s : State) : step s ≠ .fault .illegalCW := by
  by_cases hs : s.Ready
  · cases hr : s.input.rst with
    | true => simp [step_of_rst hs hr]
    | false => simp [step_of_not_rst hs hr]
  · simp only [step, cycle]
    split_ifs with he hl
    · exact absurd ⟨he, hl⟩ hs
    · simp
    · simp

/-- Settles O11: the word's bits come from one action each, and the decoder's checks are those of R96. -/
theorem conditionWordIsAlwaysLegal : Obligations.ConditionWordIsAlwaysLegal := by
  unfold Obligations.ConditionWordIsAlwaysLegal
  refine ⟨fun s => ?_, fun w hr => ?_⟩
  · obtain ⟨hone, hpu⟩ := (legalWord_iff _).mp s.conditionWord_legal
    exact ⟨hone, hpu, step_ne_illegalCW s⟩
  · rw [exists_error_iff hr, legalWord_iff, not_and_or, not_le, Classical.not_imp, Bool.not_eq_true]

/-! ### What a cycle selects -/

/-- The decoder's operation for its action (42_frame_decoder.md R151 to R154). -/
def DecAction.instr : DecAction → Instr
  | .idle => .decIdle
  | .trim => .decTrim
  | .wait => .decWait
  | .decode => .decDecode

theorem DecAction.instr_injective : Function.Injective DecAction.instr := by
  intro a b h
  cases a <;> cases b <;> simp [DecAction.instr] at h ⊢

theorem State.decode_conditionWord {s : State} (hr : s.input.rst = false) :
    decode s.conditionWord = .ok (.ops s.act.instr
      (if s.input.capValid then (if s.act = .decode then .capDrop else .capPush) else .capNone)
      (if s.act = .decode then .wdClear else if s.input.usTick then .wdTick else .wdHold)
      (if s.act = .decode then (if s.policyUpdates then .outUpdate else .outPolicyHold)
        else if s.expires then .outOverride else .outHold)) := by
  rw [State.conditionWord, decode_toWord_ops s.conditionBits hr s.conditionBits_check]
  cases ha : s.act <;> simp [State.conditionBits, DecAction.instr, ha]

theorem State.expires_iff (s : State) : s.expires = true ↔
    s.params.timeout < min (s.wd + s.input.usTick.toNat) (s.params.timeout + 1) :=
  decide_eq_true_iff

theorem State.policyUpdates_iff {s : State} (hd : s.act = .decode) :
    s.policyUpdates = true ↔ ∃ steer thr, s.policyAnswer = some (.update steer thr) := by
  rw [State.policyUpdates, hd]
  grind

theorem State.policyUpdates_of_not_decode {s : State} (hd : s.act ≠ .decode) : s.policyUpdates = false := by
  rw [State.policyUpdates]
  split
  · contradiction
  · rfl

/-- In a decode cycle the policy has a vector to answer for, so it holds where it does not update. -/
theorem State.policyUpdates_eq_false_iff {s : State} (hd : s.act = .decode) :
    s.policyUpdates = false ↔ s.policyAnswer = some .hold := by
  rw [← Bool.not_eq_true, State.policyUpdates_iff hd, State.policyAnswer_eq_phasePolicy hd]
  cases phasePolicy s <;> simp

theorem State.act_idle_iff_length (s : State) : s.act = .idle ↔ s.buf.length = 0 := by
  rw [s.act_idle_iff, List.length_eq_zero_iff]

theorem State.act_trim_iff_length (s : State) :
    s.act = .trim ↔ 1 ≤ s.buf.length ∧ s.buf.getD 0 0 < s.params.syncThr := by
  rw [s.act_trim_iff]
  cases s.buf <;> simp

theorem State.act_wait_iff_length (s : State) : s.act = .wait ↔
    1 ≤ s.buf.length ∧ s.params.syncThr ≤ s.buf.getD 0 0 ∧ s.buf.length < s.params.cap := by
  rw [s.act_wait_iff]
  cases s.buf <;> simp

theorem State.act_decode_iff_length (s : State) : s.act = .decode ↔
    s.params.syncThr ≤ s.buf.getD 0 0 ∧ 1 ≤ s.buf.length ∧ s.params.cap ≤ s.buf.length := by
  rw [s.act_decode_iff]
  cases s.buf <;> simp

/-- Settles O14: the operations are those of the action and the inputs, and each rule's condition is one of them. -/
theorem cycleSelectsByTheRulesConditions : Obligations.CycleSelectsByTheRulesConditions := by
  unfold Obligations.CycleSelectsByTheRulesConditions
  refine fun s => ⟨s.conditionWord_legal, fun hr => decode_of_rst (s.conditionWord_rst.trans hr), fun hr => ?_⟩
  refine ⟨_, _, _, _, State.decode_conditionWord hr, ?_⟩
  have hact (a : DecAction) : s.act.instr = a.instr ↔ s.act = a := DecAction.instr_injective.eq_iff
  refine ⟨(hact .idle).trans s.act_idle_iff_length, (hact .trim).trans s.act_trim_iff_length,
    (hact .wait).trans s.act_wait_iff_length, (hact .decode).trans s.act_decode_iff_length, ?_⟩
  have hdec : s.act.instr = .decDecode ↔ s.act = .decode := hact .decode
  rw [← not_lt (a := s.params.timeout), ← State.expires_iff]
  simp only [ne_eq, hdec]
  by_cases hd : s.act = .decode
  · simp only [hd, ← State.policyUpdates_iff hd, ← State.policyUpdates_eq_false_iff hd]
    cases s.input.capValid <;> cases s.policyUpdates <;> simp
  · simp only [hd]
    cases s.input.capValid <;> cases s.input.usTick <;> cases s.expires <;> simp

/-- Settles O22: the step of a block that runs is its cycle, which runs the decoded bundle. -/
theorem stepRunsTheDecodedOperations : Obligations.StepRunsTheDecodedOperations := by
  unfold Obligations.StepRunsTheDecodedOperations
  refine fun s hs => ⟨fun h => ?_, fun d c w o h => ?_⟩
  · rw [step_of_ready hs, runCycle_of_decode h, runBundle]
  · rw [step_of_ready hs, runCycle_of_decode h, runBundle]

/-! ### The state that is prepared for a word -/

theorem State.withFetchWord_eq (s : State) (w : ConditionWord) :
    s.withFetchWord 8 w.toNat = s.withCondition (CwBits.ofWord w) := by
  simp [State.withFetchWord]

theorem State.withCondition_of_rst (s : State) {c : CwBits} (hr : c.rst = true) :
    s.withCondition c = { s with pending := inputsFor c :: s.pending } := by
  rw [State.withCondition, if_pos hr]

theorem State.withCondition_params (s : State) (c : CwBits) : (s.withCondition c).params = s.params := by
  unfold State.withCondition
  split <;> rfl

theorem State.withCondition_input (s : State) (c : CwBits) : (s.withCondition c).input = inputsFor c := by
  unfold State.withCondition
  split <;> rfl

theorem State.withCondition_buf (s : State) {c : CwBits} (hr : c.rst = false) :
    (s.withCondition c).buf = bufferFor s.params c := by
  simp [State.withCondition, hr]

theorem State.withCondition_wd (s : State) {c : CwBits} (hr : c.rst = false) :
    (s.withCondition c).wd = if c.exp then s.params.timeout + 1 else 0 := by
  simp [State.withCondition, hr]

theorem State.withCondition_policy (s : State) {c : CwBits} (hr : c.rst = false) :
    (s.withCondition c).policy = if c.dec then
      .table [] (if c.pu then .update s.params.neutralSteer s.params.neutralThr else .hold) else s.policy := by
  simp [State.withCondition, hr]

/-- The action that legal bits ask for. -/
def actionFor (c : CwBits) : DecAction :=
  if c.dec then .decode else if c.trm then .trim else if c.syn then .wait else .idle

theorem actionFor_eq_iff {c : CwBits} (hone : c.dec.toNat + c.trm.toNat + c.syn.toNat ≤ 1) :
    (actionFor c = .decode ↔ c.dec = true) ∧ (actionFor c = .trim ↔ c.trm = true) ∧
      (actionFor c = .wait ↔ c.syn = true) := by
  unfold actionFor
  cases hd : c.dec <;> cases ht : c.trm <;> cases hs : c.syn <;> simp [hd, ht, hs] at hone ⊢

theorem bufferFor_length_le (p : Params) (c : CwBits) : (bufferFor p c).length ≤ p.cap := by
  unfold bufferFor Params.cap
  split_ifs <;> simp

theorem State.act_of_bufferFor {s : State} {c : CwBits} (hp : s.params.Legal) (hb : s.buf = bufferFor s.params c) :
    s.act = actionFor c := by
  obtain ⟨-, -, ⟨hsync, -⟩, -⟩ := hp
  have hcap : s.params.cap = 2 * s.params.nCh + 2 := rfl
  unfold actionFor
  unfold bufferFor at hb
  split_ifs at hb ⊢
  · rw [s.act_decode_iff_length, hb]
    simp [hcap]
  · rw [s.act_trim_iff_length, hb]
    simpa [Nat.lt_iff_add_one_le] using hsync
  · rw [s.act_wait_iff_length, hb]
    simp [hcap]
  · exact State.act_of_nil hb

theorem State.withCondition_act {s : State} (hp : s.params.Legal) {c : CwBits} (hr : c.rst = false) :
    (s.withCondition c).act = actionFor c := by
  refine State.act_of_bufferFor (by rwa [s.withCondition_params]) ?_
  rw [s.withCondition_buf hr, s.withCondition_params]

/-- In a decode cycle the policy prepared answers as PU asks. -/
theorem State.withCondition_policyUpdates {s : State} (hp : s.params.Legal) {c : CwBits} (hr : c.rst = false)
    (hpu : c.pu = true → c.dec = true) : (s.withCondition c).policyUpdates = c.pu := by
  have hact := State.withCondition_act hp hr
  cases hd : c.dec with
  | true =>
    have hdecode : (s.withCondition c).act = .decode := by simp [hact, actionFor, hd]
    rw [Bool.eq_iff_iff, State.policyUpdates_iff hdecode, State.policyAnswer_eq_phasePolicy hdecode, phasePolicy,
      s.withCondition_policy hr]
    cases hu : c.pu <;> simp [hd, Policy.answer, policyPorts]
  | false =>
    have hne : (s.withCondition c).act ≠ .decode := by
      rw [hact, actionFor, hd]
      split_ifs <;> simp_all
    rw [State.policyUpdates_of_not_decode hne]
    exact (Bool.eq_false_iff.mpr fun hu => by simp [hpu hu] at hd).symm

theorem State.withCondition_expires (s : State) {c : CwBits} (hr : c.rst = false)
    (ht : 1 ≤ s.params.timeout ∨ c.tk = false ∨ c.exp = true) : (s.withCondition c).expires = c.exp := by
  rw [Bool.eq_iff_iff, State.expires_iff, s.withCondition_wd hr, s.withCondition_input, s.withCondition_params]
  cases he : c.exp with
  | true => simp
  | false =>
    have htk : c.tk.toNat ≤ s.params.timeout := by
      rcases ht with ht | ht | ht
      · exact (Bool.toNat_le c.tk).trans ht
      · simp [ht]
      · simp [he] at ht
    simp [inputsFor]
    omega

/-- The bits that the state is prepared for are those of its condition word. -/
theorem State.withCondition_conditionBits {s : State} (hp : s.params.Legal) {c : CwBits} (hr : c.rst = false)
    (hc : c.check = none) (ht : 1 ≤ s.params.timeout ∨ c.tk = false ∨ c.exp = true) :
    (s.withCondition c).conditionBits = c := by
  obtain ⟨hone, hpu⟩ := c.check_none_iff.mp hc
  obtain ⟨hdec, htrm, hsyn⟩ := actionFor_eq_iff hone
  simp [State.conditionBits, State.withCondition_act hp hr, s.withCondition_input, s.withCondition_expires hr ht,
    State.withCondition_policyUpdates hp hr hpu, hdec, htrm, hsyn, inputsFor]

theorem State.withCondition_ready {s : State} (hs : s.Ready) (c : CwBits) : (s.withCondition c).Ready := by
  obtain ⟨⟨hp, hq⟩, hind, hch, hwd, hbuf⟩ := hs
  cases hr : c.rst with
  | true =>
    rw [s.withCondition_of_rst hr]
    exact ⟨⟨hp, hq⟩, hind, hch, hwd, hbuf⟩
  | false =>
    refine ⟨⟨?_, ?_⟩, ?_, ?_, ?_, ?_⟩
    · rwa [s.withCondition_params]
    · rw [s.withCondition_params, s.withCondition_policy hr]
      split
      · rintro ⟨⟩
      · exact hq
    · simpa [State.withCondition, hr] using hind
    · simpa [State.withCondition, hr] using hch
    · rw [s.withCondition_wd hr, s.withCondition_params]
      split <;> omega
    · rw [s.withCondition_buf hr, s.withCondition_params]
      exact bufferFor_length_le _ _

/-- Settles O21: the prepared state has the word's bits one by one, and TIMEOUT = 0 makes every tick expire. -/
theorem everyLegalWordArises : Obligations.EveryLegalWordArises := by
  unfold Obligations.EveryLegalWordArises
  refine ⟨fun s w hs hl hr ht => ?_, fun s ht htk => ?_, fun s w hs hr => ?_⟩
  · rw [s.withFetchWord_eq]
    have hbits := State.withCondition_conditionBits hs.1.1 hr (Option.isNone_iff_eq_none.mp hl) ht
    exact ⟨by rw [State.conditionWord, hbits, CwBits.toWord_ofWord], State.withCondition_ready hs _⟩
  · rw [s.conditionWord_tk] at htk
    rw [s.conditionWord_exp, s.expires_iff, ht, htk]
    simp
  · rw [s.withFetchWord_eq]
    have hrst : (s.withCondition (CwBits.ofWord w)).conditionWord.getLsbD 6 = true := by
      rw [State.conditionWord_rst, s.withCondition_input]
      exact hr
    exact ⟨hrst, decode_of_rst hrst, State.withCondition_ready hs _⟩

end Sys2Proof.Machine
end

section
/-! PROOF. The input word and the stimulus lines (30_encoding.md R100 to R102), and the bus of channel codes
(R87). -/

namespace Sys2Proof

/-! ### The input word (30_encoding.md R100) -/

/-- The three bits above `cap_dur`: `rst`, `us_tick`, `cap_valid` from the top. -/
def Inputs.flags (i : Inputs) : Nat := 4 * i.rst.toNat + 2 * i.usTick.toNat + i.capValid.toNat

/-- `cap_dur` as the word carries it. -/
def Inputs.durBits (durW : Nat) (i : Inputs) : Nat := if i.capValid then i.capDur % 2 ^ durW else 0

theorem Inputs.durBits_lt (durW : Nat) (i : Inputs) : i.durBits durW < 2 ^ durW := by
  unfold Inputs.durBits
  split
  · exact Nat.mod_lt _ (Nat.two_pow_pos durW)
  · exact Nat.two_pow_pos durW

theorem Inputs.flags_lt (i : Inputs) : i.flags < 8 := by
  have hr := i.rst.toNat_lt
  have ht := i.usTick.toNat_lt
  have hv := i.capValid.toNat_lt
  unfold Inputs.flags
  omega

theorem Inputs.flags_testBit (i : Inputs) :
    i.flags.testBit 2 = i.rst ∧ i.flags.testBit 1 = i.usTick ∧ i.flags.testBit 0 = i.capValid := by
  have hbits : ∀ r t v : Bool, (4 * r.toNat + 2 * t.toNat + v.toNat).testBit 2 = r ∧
      (4 * r.toNat + 2 * t.toNat + v.toNat).testBit 1 = t ∧ (4 * r.toNat + 2 * t.toNat + v.toNat).testBit 0 = v := by
    decide
  exact hbits i.rst i.usTick i.capValid

/-- The word's fields do not overlap: the flags stand above the `DUR_W` bits of the duration. -/
theorem encodeInput_eq (durW : Nat) (i : Inputs) : encodeInput durW i = 2 ^ durW * i.flags + i.durBits durW := by
  rw [encodeInput, Inputs.flags, ← Inputs.durBits, pow_add, pow_add]
  ring

theorem encodeInput_lt (durW : Nat) (i : Inputs) : encodeInput durW i < 2 ^ (durW + 3) := by
  have hd := i.durBits_lt durW
  calc encodeInput durW i = 2 ^ durW * i.flags + i.durBits durW := encodeInput_eq durW i
    _ < 2 ^ durW * (i.flags + 1) := by rw [Nat.mul_add_one]; omega
    _ ≤ 2 ^ durW * 8 := Nat.mul_le_mul_left _ i.flags_lt
    _ = 2 ^ (durW + 3) := by rw [pow_add]; rfl

theorem encodeInput_testBit (durW k : Nat) (i : Inputs) :
    (encodeInput durW i).testBit (durW + k) = i.flags.testBit k := by
  rw [encodeInput_eq, Nat.testBit_two_pow_mul_add _ (i.durBits_lt durW)]
  simp

theorem encodeInput_mod (durW : Nat) (i : Inputs) : encodeInput durW i % 2 ^ durW = i.durBits durW := by
  rw [encodeInput_eq, Nat.mul_add_mod, Nat.mod_eq_of_lt (i.durBits_lt durW)]

theorem decodeInput_encodeInput (durW : Nat) (i : Inputs) :
    decodeInput durW (encodeInput durW i) = some { i with capDur := i.durBits durW } := by
  obtain ⟨hrst, htk, hpv⟩ := i.flags_testBit
  have hbit0 := encodeInput_testBit durW 0 i
  rw [Nat.add_zero, hpv] at hbit0
  rw [decodeInput, if_pos (encodeInput_lt durW i), encodeInput_testBit, encodeInput_testBit, hbit0, hrst, htk,
    encodeInput_mod]

theorem lt_iff_exists_decodeInput (durW w : Nat) : w < 2 ^ (durW + 3) ↔ ∃ i, decodeInput durW w = some i := by
  unfold decodeInput
  split <;> simp_all

/-- Settles O15: the flags and the duration are read back from their own bits. -/
theorem inputWordRoundTrip : Obligations.InputWordRoundTrip := by
  unfold Obligations.InputWordRoundTrip
  exact ⟨decodeInput_encodeInput, lt_iff_exists_decodeInput⟩

/-- Settles O16: the five lines of R100, evaluated. -/
theorem inputWordExamples : Obligations.InputWordExamples := by
  unfold Obligations.InputWordExamples
  decide

/-! ### Stimulus lines (30_encoding.md R101) -/

theorem foldl_add_rst (l : StimLine) (i : Inputs) :
    (l.foldl Inputs.add i).rst = true ↔ i.rst = true ∨ .rst ∈ l := by
  induction l generalizing i with
  | nil => simp
  | cons x l ih => cases x <;> simp [ih, Inputs.add]

theorem foldl_add_usTick (l : StimLine) (i : Inputs) :
    (l.foldl Inputs.add i).usTick = true ↔ i.usTick = true ∨ .tick ∈ l := by
  induction l generalizing i with
  | nil => simp
  | cons x l ih => cases x <;> simp [ih, Inputs.add]

theorem foldl_add_capValid (l : StimLine) (i : Inputs) :
    (l.foldl Inputs.add i).capValid = true ↔ i.capValid = true ∨ ∃ d, .push d ∈ l := by
  induction l generalizing i with
  | nil => simp
  | cons x l ih => cases x <;> simp [ih, Inputs.add]

theorem foldl_add_capDur_of_no_push {l : StimLine} (h : l.countP StimItem.isPush = 0) (i : Inputs) :
    (l.foldl Inputs.add i).capDur = i.capDur := by
  induction l generalizing i with
  | nil => rfl
  | cons x l ih => cases x <;> simp_all [Inputs.add, StimItem.isPush]

/-- With one `PUSH` at most on the line, no later item overwrites its duration. -/
theorem lineInputs_capDur_of_push {l : StimLine} {d : Nat} (hone : l.countP StimItem.isPush ≤ 1)
    (hd : .push d ∈ l) : (lineInputs l).capDur = d := by
  obtain ⟨before, after, rfl⟩ := List.append_of_mem hd
  have hafter : after.countP StimItem.isPush = 0 := by
    rw [List.countP_append, List.countP_cons_of_pos rfl] at hone
    omega
  rw [lineInputs, List.foldl_append, List.foldl_cons, foldl_add_capDur_of_no_push hafter]
  rfl

theorem lineInputs_capValid_iff (l : StimLine) : (lineInputs l).capValid = true ↔ ∃ d, .push d ∈ l := by
  simp [lineInputs, foldl_add_capValid, Inputs.nop]

theorem lineInputs_capDur_of_not_capValid {l : StimLine} (h : (lineInputs l).capValid = false) :
    (lineInputs l).capDur = 0 := by
  refine foldl_add_capDur_of_no_push (List.countP_eq_zero.mpr fun x hx hpush => ?_) _
  cases x with
  | push d => simp [(lineInputs_capValid_iff l).mpr ⟨d, hx⟩] at h
  | tick | rst => simp [StimItem.isPush] at hpush

/-- A well-formed line's duration is its own bits in the word. -/
theorem lineInputs_durBits {p : Params} {l : StimLine} (hone : l.countP StimItem.isPush ≤ 1)
    (hfit : ∀ x ∈ l, x.fits p = true) : (lineInputs l).durBits p.durW = (lineInputs l).capDur := by
  unfold Inputs.durBits
  split
  next hv =>
    obtain ⟨d, hd⟩ := (lineInputs_capValid_iff l).mp hv
    rw [lineInputs_capDur_of_push hone hd]
    exact Nat.mod_eq_of_lt (by simpa [StimItem.fits] using hfit _ hd)
  next hv => exact (lineInputs_capDur_of_not_capValid (by simpa using hv)).symm

/-- Settles O17: each kind of item sets its own input, and the line's only duration fits the word. -/
theorem stimulusLineRoundTrip : Obligations.StimulusLineRoundTrip := by
  unfold Obligations.StimulusLineRoundTrip
  intro p l hl
  simp only [StimLine.wellFormed, Bool.and_eq_true, decide_eq_true_eq, List.all_eq_true] at hl
  obtain ⟨⟨⟨hone, -⟩, -⟩, hfit⟩ := hl
  refine ⟨?_, by simp [lineInputs, foldl_add_rst, Inputs.nop], by simp [lineInputs, foldl_add_usTick, Inputs.nop],
    lineInputs_capValid_iff l, fun d => lineInputs_capDur_of_push hone⟩
  rw [encodeLine, decodeInput_encodeInput, lineInputs_durBits hone hfit]

/-! ### FRAMES (30_encoding.md R102) -/

/-- The lines that push the entries of the pairs, two for each. -/
def pairLines (pairs : List (Nat × Nat)) : List StimLine := pairs.flatMap (fun ab => [[.push ab.1], [.push ab.2]])

theorem pairLines_length (pairs : List (Nat × Nat)) : (pairLines pairs).length = 2 * pairs.length := by
  induction pairs with
  | nil => rfl
  | cons ab pairs ih =>
    calc (pairLines (ab :: pairs)).length = (pairLines pairs).length + 2 := rfl
      _ = 2 * (ab :: pairs).length := by rw [ih, List.length_cons, Nat.mul_add_one]

theorem pairLines_getElem? {pairs : List (Nat × Nat)} {i : Nat} {ab : Nat × Nat} (h : pairs[i]? = some ab) :
    (pairLines pairs)[2 * i]? = some [.push ab.1] ∧ (pairLines pairs)[2 * i + 1]? = some [.push ab.2] := by
  induction pairs generalizing i with
  | nil => simp at h
  | cons cd pairs ih =>
    cases i with
    | zero =>
      obtain rfl : cd = ab := by simpa using h
      exact ⟨rfl, rfl⟩
    | succ i => exact ih (by simpa using h)

theorem frameLines_eq (g c : Nat) (pairs : List (Nat × Nat)) :
    frameLines g c pairs = [.push g] :: [.push c] :: (pairLines pairs ++ [[]]) := rfl

theorem frameLines_length (g c : Nat) (pairs : List (Nat × Nat)) :
    (frameLines g c pairs).length = 2 * pairs.length + 3 := by
  simp [frameLines_eq, pairLines_length]

/-- The last line is the `NOP` of the decode cycle. -/
theorem frameLines_last (g c : Nat) (pairs : List (Nat × Nat)) :
    (frameLines g c pairs)[2 * pairs.length + 2]? = some [] := by
  simp [frameLines_eq, ← pairLines_length]

theorem frameLines_pair (g c : Nat) {pairs : List (Nat × Nat)} {i : Nat} {ab : Nat × Nat}
    (h : pairs[i]? = some ab) : (frameLines g c pairs)[2 + 2 * i]? = some [.push ab.1] ∧
      (frameLines g c pairs)[3 + 2 * i]? = some [.push ab.2] := by
  obtain ⟨hfirst, hsecond⟩ := pairLines_getElem? h
  have happ {k : Nat} {x : StimLine} (hk : (pairLines pairs)[k]? = some x) :
      (frameLines g c pairs)[k + 2]? = some x := by
    rw [frameLines_eq, List.getElem?_cons_succ, List.getElem?_cons_succ]
    obtain ⟨hlt, -⟩ := List.getElem?_eq_some_iff.mp hk
    exact (List.getElem?_append_left hlt).trans hk
  exact ⟨by rw [Nat.add_comm]; exact happ hfirst, by rw [Nat.add_comm]; exact happ hsecond⟩

/-- The pairs of FRAMES: 400 and what is left of each sum. -/
def framesPairs (sums : List Nat) : List (Nat × Nat) := sums.map (fun s => (400, s - 400))

theorem framesPairs_length (sums : List Nat) : (framesPairs sums).length = sums.length :=
  List.length_map _

theorem framesPairs_getElem? {sums : List Nat} {i n : Nat} (h : sums[i]? = some n) :
    (framesPairs sums)[i]? = some (400, n - 400) := by
  simp [framesPairs, h]

/-- Settles O18: the lines are those of a frame with the pairs `(400, Si - 400)`. -/
theorem framesExpansion : Obligations.FramesExpansion := by
  unfold Obligations.FramesExpansion
  intro p g sums hwf
  refine ⟨frameLines g 400 (framesPairs sums), if_pos hwf, ?_⟩
  simp only [Stimulus.wellFormed, Bool.and_eq_true, decide_eq_true_eq, List.all_eq_true] at hwf
  obtain ⟨⟨⟨hlen, -⟩, -⟩, hsum⟩ := hwf
  have hcap : 2 * (framesPairs sums).length + 2 = p.cap := by rw [framesPairs_length, hlen, Params.cap]
  refine ⟨by rw [frameLines_length, ← hcap], hcap ▸ frameLines_last g 400 _, rfl, rfl, fun i hi => ?_⟩
  have hget : sums[i]? = some sums[i] := List.getElem?_eq_getElem (hlen ▸ hi)
  obtain ⟨hmin, -⟩ := hsum _ (List.mem_of_getElem? hget)
  obtain ⟨hfirst, hsecond⟩ := frameLines_pair g 400 (framesPairs_getElem? hget)
  exact ⟨400, sums[i] - 400, hfirst, hsecond, by rw [hget, Nat.add_sub_cancel' hmin]⟩

/-! ### The channel bus (30_encoding.md R87) -/

/-- Settles O19: channel `i` is the `i`-th lane of the bus. -/
theorem busHoldsChannelsInOrder : Obligations.BusHoldsChannelsInOrder := by
  unfold Obligations.BusHoldsChannelsInOrder
  exact fun _ _ _ _ => Machine.packBus_lane

end Sys2Proof
end

section
/-! PROOF. The cycle of 40_cycle.md: the step is R111's text, and the loop state machine that R114 reads off it. -/

namespace Sys2Proof.Machine

/-! ### The step and R111's text -/

/-- Settles O23: it holds; the fault that R111's text names can not arise, since phase 3 always leaves room for a
push. -/
theorem stepIsThePhaseText : Obligations.StepIsThePhaseText := by
  unfold Obligations.StepIsThePhaseText
  intro s hs
  have ⟨_, _, _, _, hbuf⟩ := hs
  cases hr : s.input.rst with
  | true =>
    rw [step_of_rst hs hr, phaseStep, if_pos hr]
    rfl
  | false =>
    have hroom : ¬ (s.input.capValid ∧ s.act ≠ .decode ∧ (phaseBuffer s).length = s.params.cap) :=
      fun ⟨_, _, hfull⟩ => (phaseBuffer_length_lt hbuf).ne hfull
    rw [step_of_not_rst hs hr, phaseStep, if_neg (by simp [hr]), if_neg hroom]

/-! ### The decoder's state is the action that the buffer selects -/

theorem State.decState_searching_iff_act (s : State) : s.decState = .searching ↔ s.act = .idle ∨ s.act = .trim := by
  rw [s.decState_searching_iff, s.act_idle_iff_length, s.act_trim_iff_length]
  omega

theorem State.decState_synced_iff_act (s : State) : s.decState = .synced ↔ s.act = .wait := by
  rw [s.decState_synced_iff, s.act_wait_iff_length]

theorem State.decState_decoding_iff_act {s : State} (h : s.buf.length ≤ s.params.cap) :
    s.decState = .decoding ↔ s.act = .decode := by
  have hcap : 0 < s.params.cap := by simp [Params.cap]
  rw [State.decState_decoding_iff h, s.act_decode_iff_length]
  omega

/-! ### The decoder's state after a cycle, by the buffer that phase 3 leaves -/

/-- A buffer that phase 3 leaves empty holds the pushed value, if any, and nothing else. -/
theorem phaseNext_buf_of_phaseBuffer_nil {s : State} (hd : s.act ≠ .decode) (hb : phaseBuffer s = []) :
    (phaseNext s).buf = if s.input.capValid then [s.capDur] else [] := by
  simp [phaseNext_buf, hb, hd]

theorem phaseNext_synced_iff_of_phaseBuffer_nil {s : State} (hd : s.act ≠ .decode) (hb : phaseBuffer s = []) :
    (phaseNext s).decState = .synced ↔ s.input.capValid = true ∧ s.params.syncThr ≤ s.capDur := by
  rw [State.decState_synced_iff, phaseNext_buf_of_phaseBuffer_nil hd hb]
  cases s.input.capValid <;> simp [Params.cap]

/-- One entry is not a frame. -/
theorem phaseNext_ne_decoding_of_phaseBuffer_nil {s : State} (hl : s.buf.length ≤ s.params.cap)
    (hd : s.act ≠ .decode) (hb : phaseBuffer s = []) : (phaseNext s).decState ≠ .decoding := by
  rw [ne_eq, State.decState_decoding_iff (phaseNext_buf_length_le hl), phaseNext_buf_of_phaseBuffer_nil hd hb]
  cases s.input.capValid <;> simp [Params.cap]

theorem phaseNext_buf_length {s : State} (hd : s.act ≠ .decode) :
    (phaseNext s).buf.length = (phaseBuffer s).length + s.input.capValid.toNat := by
  rw [phaseNext_buf]
  cases s.input.capValid <;> simp [hd]

/-- The front of a buffer that phase 3 does not leave empty stays at the front: the push lands behind it. -/
theorem phaseNext_buf_of_phaseBuffer_cons {s : State} {d : Nat} {l : List Nat} (hb : phaseBuffer s = d :: l) :
    ∃ l', (phaseNext s).buf = d :: l' := by
  rw [phaseNext_buf, hb]
  split
  · exact ⟨_, rfl⟩
  · exact ⟨_, rfl⟩

theorem phaseNext_searching_iff_of_phaseBuffer_cons {s : State} {d : Nat} {l : List Nat}
    (hb : phaseBuffer s = d :: l) : (phaseNext s).decState = .searching ↔ d < s.params.syncThr := by
  obtain ⟨l', hn⟩ := phaseNext_buf_of_phaseBuffer_cons hb
  simp [State.decState_searching_iff, hn]

theorem phaseNext_synced_iff_of_phaseBuffer_cons {s : State} {d : Nat} {l : List Nat} (hb : phaseBuffer s = d :: l) :
    (phaseNext s).decState = .synced ↔ s.params.syncThr ≤ d ∧ (phaseNext s).buf.length < s.params.cap := by
  obtain ⟨l', hn⟩ := phaseNext_buf_of_phaseBuffer_cons hb
  simp [State.decState_synced_iff, hn]

theorem phaseNext_decoding_iff_of_phaseBuffer_cons {s : State} {d : Nat} {l : List Nat}
    (hl : s.buf.length ≤ s.params.cap) (hb : phaseBuffer s = d :: l) :
    (phaseNext s).decState = .decoding ↔ s.params.syncThr ≤ d ∧ (phaseNext s).buf.length = s.params.cap := by
  obtain ⟨l', hn⟩ := phaseNext_buf_of_phaseBuffer_cons hb
  simp [State.decState_decoding_iff (phaseNext_buf_length_le hl), hn]

/-! ### The ways of the loop -/

theorem phaseBuffer_of_trim {s : State} (ha : s.act = .trim) : phaseBuffer s = s.buf.tail := by
  simp [phaseBuffer, ha]

/-- Trimming the only entry empties the buffer. -/
theorem phaseBuffer_of_trim_of_length_eq_one {s : State} (ha : s.act = .trim) (h1 : s.buf.length = 1) :
    phaseBuffer s = [] := by
  rw [phaseBuffer_of_trim ha, ← List.length_eq_zero_iff, List.length_tail, h1]

/-- Under (I2) a short front has nothing behind it (10_state.md R27). -/
theorem State.Inv.length_of_trim {s : State} (hi : s.Inv) (ha : s.act = .trim) : s.buf.length = 1 := by
  obtain ⟨hpos, hlt⟩ := s.act_trim_iff_length.mp ha
  have hfront := hi.front
  omega

/-- Under (I2) a searching decoder's buffer is empty before the push. -/
theorem State.Inv.phaseBuffer_of_searching {s : State} (hi : s.Inv) (hs : s.decState = .searching) :
    s.act ≠ .decode ∧ phaseBuffer s = [] := by
  rcases s.decState_searching_iff_act.mp hs with ha | ha
  · exact ⟨by simp [ha], by simp [phaseBuffer, ha, s.act_idle_iff.mp ha]⟩
  · exact ⟨by simp [ha], phaseBuffer_of_trim_of_length_eq_one ha (hi.length_of_trim ha)⟩

/-- SYNCED waits with a gap at the front, so only the length decides between SYNCED and DECODING. -/
theorem phaseNext_decState_of_synced {s : State} (hl : s.buf.length ≤ s.params.cap) (hs : s.decState = .synced) :
    ((phaseNext s).decState = .synced ∨ (phaseNext s).decState = .decoding) ∧
    ((phaseNext s).decState = .decoding ↔ s.input.capValid = true ∧ s.buf.length + 1 = s.params.cap) := by
  have ha : s.act = .wait := s.decState_synced_iff_act.mp hs
  have hd : s.act ≠ .decode := by simp [ha]
  obtain ⟨d, l, hb, hgap, hlt⟩ := s.act_wait_iff.mp ha
  have hpb : phaseBuffer s = s.buf := by simp [phaseBuffer, ha]
  have hcons : phaseBuffer s = d :: l := hpb.trans hb
  have hlen := phaseNext_buf_length hd
  have hle := phaseNext_buf_length_le hl
  rw [phaseNext_synced_iff_of_phaseBuffer_cons hcons, phaseNext_decoding_iff_of_phaseBuffer_cons hl hcons]
  refine ⟨hle.lt_or_eq.imp (⟨hgap, ·⟩) (⟨hgap, ·⟩), ?_⟩
  rw [hlen, hpb]
  cases s.input.capValid with
  | true => simp [hgap]
  | false => simp [hlt.ne]

/-- Settles O49: it holds, since the buffer that phase 3 leaves decides where a push lands: alone in an empty buffer, or
behind a front that then decides with the length. -/
theorem loopStateMachine : Obligations.LoopStateMachine := by
  unfold Obligations.LoopStateMachine
  intro s t ht hr
  have hs := ready_of_step_next ht
  obtain rfl : phaseNext s = t := by simpa [step_of_not_rst hs hr] using ht
  obtain ⟨-, -, -, -, hl⟩ := hs
  refine ⟨fun hb => ?_, fun ha h1 => ?_, fun ha h2 => ?_, State.Inv.length_of_trim, fun hi hsearch => ?_,
    fun hsync => (phaseNext_decState_of_synced hl hsync).1, fun hsync => (phaseNext_decState_of_synced hl hsync).2,
    fun hdec => ?_⟩
  · have ha : s.act = .idle := State.act_of_nil hb
    exact phaseNext_synced_iff_of_phaseBuffer_nil (by simp [ha]) (by simp [phaseBuffer, ha, hb])
  · exact phaseNext_synced_iff_of_phaseBuffer_nil (by simp [ha]) (phaseBuffer_of_trim_of_length_eq_one ha h1)
  · obtain ⟨d, l, hb, -⟩ := s.act_trim_iff.mp ha
    rw [hb, List.length_cons] at h2
    obtain ⟨e, l, rfl⟩ := List.exists_cons_of_length_pos (Nat.le_of_succ_le_succ h2)
    have hcons : phaseBuffer s = e :: l := by rw [phaseBuffer_of_trim ha, hb, List.tail_cons]
    rw [phaseNext_searching_iff_of_phaseBuffer_cons hcons, phaseNext_synced_iff_of_phaseBuffer_cons hcons]
    simp [hb]
  · obtain ⟨hd, hb⟩ := hi.phaseBuffer_of_searching hsearch
    exact phaseNext_ne_decoding_of_phaseBuffer_nil hl hd hb
  · have hd : s.act = .decode := (State.decState_decoding_iff_act hl).mp hdec
    exact (State.decState_searching_iff _).mpr (.inl (by rw [phaseNext_buf_of_decode hd, List.length_nil]))

end Sys2Proof.Machine
end

section
/-! PROOF. The PulseBuffer's operations (41_pulse_buffer.md R133 to R139): what CAP_NONE, CAP_DROP and CAP_PUSH do, where
an operation lacks its operand, and that no cycle exceeds the capacity. -/

namespace Sys2Proof.Machine

/-! ### The capture port's operations -/

theorem exec_capPush_of_lt {s : State} (h : s.buf.length < s.params.cap) :
    exec .capPush s = .next (s.bufPush s.capDur) := if_pos h

theorem exec_capPush_of_cap_le {s : State} (h : s.params.cap ≤ s.buf.length) :
    exec .capPush s = .fault .bufferOverflow := if_neg h.not_gt

/-- Settles O29: it holds by the meanings of the two operations. -/
theorem noneAndDropChangeNothing : Obligations.NoneAndDropChangeNothing := by
  unfold Obligations.NoneAndDropChangeNothing
  intro s i hi
  obtain rfl | rfl : i = .capNone ∨ i = .capDrop := by simpa using hi
  · rfl
  · rfl

/-- Settles O30: it holds; an index of the pushed buffer is below, at, or above the old length. -/
theorem pushAppendsOrOverflows : Obligations.PushAppendsOrOverflows := by
  unfold Obligations.PushAppendsOrOverflows
  refine fun s => ⟨fun hroom => ⟨_, exec_capPush_of_lt hroom, rfl, fun k hk => ?_, ?_, fun k hk => ?_⟩,
    fun hfull => exec_capPush_of_cap_le hfull.ge⟩
  · rw [State.bufRead_bufPush, if_neg hk.ne]
  · rw [State.bufRead_bufPush, if_pos rfl, State.capDur]
  · rw [State.bufRead_bufPush, if_neg hk.ne', State.bufRead, List.getElem?_eq_none hk.le]

/-! ### Operations without their operand (log entry 6) -/

/-- A channel whose second entry is missing has no code. -/
theorem State.channelCode_eq_none {s : State} {i : Nat} (h : s.buf.length ≤ 3 + 2 * i) : s.channelCode i = none := by
  rw [Option.eq_none_iff_forall_ne_some]
  intro c hc
  obtain ⟨a, b, -, hb, -⟩ := (s.channelCode_eq_some_iff i c).mp hc
  simp [List.getElem?_eq_none h] at hb

/-- A buffer of fewer than `CAP` entries lacks at least the last channel's second one. -/
theorem State.decodeVector_eq_none {s : State} (hn : 1 ≤ s.params.nCh) (h : s.buf.length < s.params.cap) :
    s.decodeVector = none := by
  obtain ⟨n, hn⟩ := Nat.exists_eq_add_of_le' hn
  have hlast : s.channelCode n = none := State.channelCode_eq_none (by rw [Params.cap] at h; omega)
  simp [State.decodeVector, State.channelCodes, hn, hlast]

theorem exec_decTrim_of_nil {s : State} (h : s.buf = []) : exec .decTrim s = .fault .illegalCW := by
  simp [exec, execDecTrim, State.bufFront, h]

theorem exec_decDecode_of_none {s : State} (h : s.decodeVector = none) : exec .decDecode s = .fault .illegalCW := by
  simp [exec, execDecDecode, h]

theorem exec_outUpdate_of_hold {s : State} (h : s.policyAnswer = some .hold) :
    exec .outUpdate s = .fault .illegalCW := by
  simp [exec, execOutUpdate, h]

/-- Settles O34: it holds; each operation stops where its read primitive, the vector or the policy gives it nothing. -/
theorem operationsWithoutOperandFault : Obligations.OperationsWithoutOperandFault := by
  unfold Obligations.OperationsWithoutOperandFault
  intro s
  exact ⟨fun hnil => exec_decTrim_of_nil (List.length_eq_zero_iff.mp hnil),
    fun hlt hn => exec_decDecode_of_none (State.decodeVector_eq_none hn hlt), exec_outUpdate_of_hold⟩

/-! ### The capacity (R137) -/

/-- A step can only fault in the check for values that are never produced: a cycle that runs does not stop. -/
theorem eq_illegalState_of_step_fault {s : State} {r : Fault} (h : step s = .fault r) : r = .illegalState := by
  by_cases hs : s.Ready
  · obtain ⟨t, ht, -⟩ := cycleNeverStops s hs
    simp [ht] at h
  · simp only [step, cycle] at h
    split_ifs at h with he hl
    · exact absurd ⟨he, hl⟩ hs
    · simpa [eq_comm] using h

/-- Settles O39: it holds; a reset empties the buffer, and phase 3 of R111 leaves room for the push. -/
theorem capacityIsNeverExceeded : Obligations.CapacityIsNeverExceeded := by
  unfold Obligations.CapacityIsNeverExceeded
  refine fun s hl => ⟨fun hf => ?_, fun t ht => ?_⟩
  · simpa using eq_illegalState_of_step_fault hf
  · obtain ⟨-, ⟨-, rfl⟩ | ⟨-, rfl⟩⟩ := step_next_cases ht
    · exact Nat.zero_le _
    · exact phaseNext_buf_length_le hl

end Sys2Proof.Machine
end

section
/-! PROOF. The frame decoder (42_frame_decoder.md R151 to R161): its four operations, the channel rule and its widths,
and that each lane of a decode cycle is written from its own pair. -/

namespace Sys2Proof.Machine

/-! ### Idle, wait and trim -/

/-- Settles O26: it holds by the meanings of the two operations. -/
theorem idleAndWaitChangeNothing : Obligations.IdleAndWaitChangeNothing := by
  unfold Obligations.IdleAndWaitChangeNothing
  intro s i hi
  obtain rfl | rfl : i = .decIdle ∨ i = .decWait := by simpa using hi
  · rfl
  · rfl

theorem exec_decTrim_of_ne_nil {s : State} (h : s.buf ≠ []) : exec .decTrim s = .next s.bufPop.driveNoDecode := by
  obtain ⟨d, l, hb⟩ := List.exists_cons_of_ne_nil h
  simp [exec, execDecTrim, State.bufFront, hb]

/-- Settles O27: it holds; the operation is a pop and the outputs of a cycle without a decode. -/
theorem trimDropsTheOldestEntry : Obligations.TrimDropsTheOldestEntry := by
  unfold Obligations.TrimDropsTheOldestEntry
  intro s hpos
  exact ⟨_, exec_decTrim_of_ne_nil (List.ne_nil_of_length_pos hpos), rfl, s.bufRead_bufPop⟩

/-! ### The channel rule (R156) and its widths (R160) -/

theorem decodeChannel_cast (p : Params) (a b : Nat) :
    (decodeChannel p a b : Int) = min (max ((a : Int) + b - p.baseline) 0) p.scale := by
  simp only [decodeChannel, clamp, pairOffset, pairSum]
  omega

theorem decodeChannel_lt (p : Params) (a b : Nat) : decodeChannel p a b < 2 ^ codeW p :=
  (decodeChannel_le_scale p a b).trans_lt (lt_two_pow_bitLength _)

theorem pairSum_le {w a b : Nat} (ha : a < 2 ^ w) (hb : b < 2 ^ w) : pairSum a b ≤ 2 ^ (w + 1) - 2 := by
  rw [pairSum, Nat.pow_succ]
  omega

/-- Dividing by a positive scale commutes with the clamp (R156). -/
theorem decodeChannel_div_scale {p : Params} (hs : 1 ≤ p.scale) (a b : Nat) :
    (decodeChannel p a b : Rat) / (p.scale : Rat) =
      min (max (((a : Rat) + (b : Rat) - (p.baseline : Rat)) / (p.scale : Rat)) 0) 1 := by
  have hpos : (0 : Rat) < p.scale := by exact_mod_cast hs
  have hcode : (decodeChannel p a b : Rat) = min (max ((a : Rat) + b - p.baseline) 0) p.scale := by
    exact_mod_cast congrArg (Int.cast : Int → Rat) (decodeChannel_cast p a b)
  rw [hcode, ← min_div_div_right hpos.le, ← max_div_div_right hpos.le, zero_div, div_self hpos.ne']

/-- Settles O35: it holds; the code is the clamped offset, so it is at most SCALE and divides by it as R156 says. -/
theorem decodeChannelRule : Obligations.DecodeChannelRule := by
  unfold Obligations.DecodeChannelRule
  intro p a b
  exact ⟨decodeChannel_cast p a b, decodeChannel_lt p a b, pairSum_le, fun hs => decodeChannel_div_scale hs a b⟩

/-- Settles O36: it holds; both the sum and the baseline are at most `2 ^ (DUR_W + 1) - 2`, which bounds their
difference on both sides. -/
theorem decoderValuesFitTheirWidths : Obligations.DecoderValuesFitTheirWidths := by
  unfold Obligations.DecoderValuesFitTheirWidths
  intro p a b ha hb hbase
  have hsum := pairSum_le ha hb
  have hcast : (2 ^ (p.durW + 1) : Int) = (2 ^ (p.durW + 1) : Nat) := by norm_cast
  have hpos : 0 < 2 ^ (p.durW + 1) := Nat.two_pow_pos _
  have hcode := decodeChannel_cast p a b
  refine ⟨hsum, ?_, ?_, decodeChannel_lt p a b, fun hlow => ?_, fun hhigh => ?_⟩
  · rw [pairOffset, hcast]
    omega
  · rw [pairOffset, hcast]
    omega
  · rw [pairSum] at hlow
    omega
  · rw [pairSum] at hhigh
    omega

/-! ### The lanes of the vector (R155, R161) -/

/-- With a whole frame in the buffer there is a vector, whatever the front entry is. -/
theorem State.decodeVector_of_cap_le {s : State} (h : s.params.cap ≤ s.buf.length) :
    s.decodeVector = some (phaseVector s) := by
  simp [s.decodeVector_eq h, phaseVector, decodeChannel, clamp, pairOffset, pairSum]

/-- Lane `i` of the vector is written from entries `2+2i` and `3+2i`. -/
theorem phaseVector_lane {s : State} {i : Nat} (hl : s.params.cap ≤ s.buf.length) (hi : i < s.params.nCh) :
    ∃ a b, s.bufRead (2 + 2 * i) = some a ∧ s.bufRead (3 + 2 * i) = some b ∧
      (phaseVector s)[i]? = some (decodeChannel s.params a b) := by
  obtain ⟨-, hlanes⟩ := s.channelCodes_some _ _ (State.decodeVector_of_cap_le hl)
  have hcode := s.channelCode_isSome i (by rw [Params.cap] at hl; omega)
  obtain ⟨a, b, ha, hb, hab⟩ := (s.channelCode_eq_some_iff i _).mp hcode
  exact ⟨a, b, ha, hb, by rw [hlanes i hi, hcode, hab]⟩

/-- Settles O28: it holds; the operation writes the vector, whose lanes are the clamped offsets of their pairs. -/
theorem decodeWritesAllChannels : Obligations.DecodeWritesAllChannels := by
  unfold Obligations.DecodeWritesAllChannels
  intro s hl
  refine ⟨phaseVector s, ?_, phaseVector_length s, fun i hi => ?_⟩
  · simp only [exec, execDecDecode, State.decodeVector_of_cap_le hl]
    rfl
  · obtain ⟨a, b, ha, hb, hlane⟩ := phaseVector_lane hl hi
    exact ⟨a, b, ha, hb, by rw [hlane, ← decodeChannel_cast, Int.toNat_natCast]⟩

/-! ### The channel register over a cycle (R158, R161) -/

theorem State.cap_le_of_act_decode {s : State} (hd : s.act = .decode) : s.params.cap ≤ s.buf.length := by
  obtain ⟨-, -, -, -, hl⟩ := s.act_decode_iff.mp hd
  exact hl

theorem eq_phaseNext_of_step {s t : State} (ht : step s = .next t) (hr : s.input.rst = false) : t = phaseNext s := by
  simpa [step_of_not_rst (ready_of_step_next ht) hr, eq_comm] using ht

theorem phaseNext_ch_of_decode {s : State} (hd : s.act = .decode) : (phaseNext s).ch = phaseVector s := by
  rw [phaseNext_ch, if_pos hd]

theorem phaseNext_ch_of_not_decode {s : State} (hd : s.act ≠ .decode) : (phaseNext s).ch = s.ch := by
  rw [phaseNext_ch, if_neg hd]

theorem phaseNext_chValid_of_decode {s : State} (hd : s.act = .decode) : (phaseNext s).chValid = true := by
  rw [phaseNext_chValid, if_pos hd]

theorem phaseNext_chValid_of_not_decode {s : State} (hd : s.act ≠ .decode) : (phaseNext s).chValid = s.chValid := by
  rw [phaseNext_chValid, if_neg hd]

/-- Settles O37: it holds, since two vectors whose lanes are written from the same pair agree on the lane. -/
theorem channelsAreIndependentLanes : Obligations.ChannelsAreIndependentLanes := by
  unfold Obligations.ChannelsAreIndependentLanes
  intro s t s' t' hp hs ht hrs hrt hs' ht'
  rw [eq_phaseNext_of_step hs' hrs, eq_phaseNext_of_step ht' hrt, phaseNext_ch_of_decode hs, phaseNext_ch_of_decode ht]
  refine ⟨phaseVector_length s, fun i hi hfst hsnd => ?_⟩
  obtain ⟨a, b, ha, hb, hlane⟩ := phaseVector_lane (State.cap_le_of_act_decode hs) hi
  obtain ⟨c, d, hc, hd, hlane'⟩ := phaseVector_lane (State.cap_le_of_act_decode ht) (by rwa [hp])
  obtain rfl : a = c := Option.some.inj (ha.symm.trans (hfst.trans hc))
  obtain rfl : b = d := Option.some.inj (hb.symm.trans (hsnd.trans hd))
  rw [hlane, hlane', hp]

/-- Settles O40: it holds; phase 2 of R111 writes the whole vector in a decode cycle, and no other phase writes the
register. -/
theorem channelRegisterWriters : Obligations.ChannelRegisterWriters := by
  unfold Obligations.ChannelRegisterWriters
  intro s t ht hr
  obtain rfl := eq_phaseNext_of_step ht hr
  refine ⟨fun hd => ⟨phaseNext_chValid_of_decode hd, ?_, ?_, BitVec.toNat_ofNat _ _, fun i hi => ?_⟩,
    fun hd => ⟨phaseNext_ch_of_not_decode hd, phaseNext_chValid_of_not_decode hd⟩⟩
  · rw [State.mealyOutputs_of_not_rst hr, phaseNext_ch_of_decode hd, phaseNext_outs]
    exact (if_pos hd).symm
  · rw [phaseNext_ch_of_decode hd, phaseVector_length]
  · rw [phaseNext_ch_of_decode hd]
    exact phaseVector_lane (State.cap_le_of_act_decode hd) hi

end Sys2Proof.Machine
end

section
/-! PROOF. The frame decoder over several cycles: leading short values are trimmed one a cycle (42_frame_decoder.md
R152), and a complete frame is decoded in the cycle after its last push (R153, R154, R159). -/

namespace Sys2Proof.Machine

/-! ### Runs without a reset -/

theorem State.input_of_pending {s : State} {i : Inputs} {l : List Inputs} (h : s.pending = i :: l) : s.input = i := by
  simp [State.input, h]

theorem phaseNext_pending (s : State) : (phaseNext s).pending = s.pending.tail := rfl

theorem phaseNext_ready {s : State} (h : s.Ready) : (phaseNext s).Ready := ⟨h.1, phaseNext_legalValues h.2⟩

theorem State.after_succ_of_not_rst {s : State} (h : s.Ready) (hr : s.input.rst = false) (k : Nat) :
    s.after (k + 1) = (phaseNext s).after k := State.after_succ_of_next (step_of_not_rst h hr) k

/-- Cycles after `m` cycles. -/
theorem State.after_add {s t : State} {m : Nat} (h : s.after m = some t) (k : Nat) : s.after (m + k) = t.after k := by
  induction m generalizing s with
  | zero =>
    obtain rfl : s = t := by simpa using h
    rw [Nat.zero_add]
  | succ m ih =>
    obtain ⟨u, hu, hut⟩ := State.after_succ_eq_some h
    rw [Nat.add_right_comm, State.after_succ_of_next hu, ih hut]

theorem State.quietFor_succ {s : State} {k : Nat} (hr : s.input.rst = false) (hd : s.act ≠ .decode)
    (hq : (phaseNext s).quietFor k) : s.quietFor (k + 1) := by
  refine ⟨hd, hr, fun t ht => ?_⟩
  rwa [eq_phaseNext_of_step ht hr]

/-! ### Leading short values (R152) -/

/-- Settles O55, by induction on the short values: each is at the front for one cycle, which trims it. -/
theorem leadingShortValuesAreTrimmed : Obligations.LeadingShortValuesAreTrimmed := by
  unfold Obligations.LeadingShortValuesAreTrimmed
  intro shorts
  induction shorts with
  | nil =>
    intro rest s _ hb _ _ _
    exact ⟨s, State.after_zero s, hb, rfl, rfl, trivial⟩
  | cons d shorts ih =>
    intro rest s hs hb hshort hlen hin
    obtain ⟨i, l, hpend⟩ := List.exists_cons_of_length_pos (Nat.zero_lt_of_lt hlen)
    have hinput : s.input = i := State.input_of_pending hpend
    simp only [hpend, List.length_cons, List.take_succ_cons, List.forall_mem_cons] at hshort hlen hin
    obtain ⟨hd, hshort⟩ := hshort
    obtain ⟨⟨hrst, hvalid⟩, hin⟩ := hin
    rw [← hinput] at hrst hvalid
    have ha : s.act = .trim := s.act_trim_iff.mpr ⟨d, _, hb, hd⟩
    have hnd : s.act ≠ .decode := by simp [ha]
    have hbuf : (phaseNext s).buf = shorts ++ rest := by simp [phaseNext_buf_of_not_decode hnd, ha, hvalid, hb]
    have hpend' : (phaseNext s).pending = l := by rw [phaseNext_pending, hpend, List.tail_cons]
    obtain ⟨t, ht, htb, htch, htv, hq⟩ := ih rest (phaseNext s) (phaseNext_ready hs) hbuf hshort
      (by rw [hpend']; omega) (by rwa [hpend'])
    exact ⟨t, (State.after_succ_of_not_rst hs hrst _).trans ht, htb, htch.trans (phaseNext_ch_of_not_decode hnd),
      htv.trans (phaseNext_chValid_of_not_decode hnd), State.quietFor_succ hrst hnd hq⟩

/-! ### A complete frame (R153, R154, R159) -/

/-- What the pushes among these inputs append to a buffer that is not trimmed. -/
def pushedDurations (p : Params) (ins : List Inputs) : Memory :=
  (ins.filter (fun i => i.capValid)).map (fun i => i.capDur % 2 ^ p.durW)

theorem pushedDurations_cons (p : Params) (i : Inputs) (ins : List Inputs) :
    pushedDurations p (i :: ins) =
      (if i.capValid then [i.capDur % 2 ^ p.durW] else []) ++ pushedDurations p ins := by
  cases h : i.capValid <;> simp [pushedDurations, h]

theorem pushedDurations_eq_map {p : Params} {ins : List Inputs}
    (h : ∀ i ∈ ins, i.capValid = true → i.capDur < 2 ^ p.durW) :
    pushedDurations p ins = (ins.filter (fun i => i.capValid)).map Inputs.capDur := by
  refine List.map_congr_left fun i hi => ?_
  obtain ⟨hmem, hv⟩ := List.mem_filter.mp hi
  exact Nat.mod_eq_of_lt (h i hmem hv)

theorem pushedDurations_ne_nil {p : Params} {ins : List Inputs} {i : Inputs} (hi : i ∈ ins) (hv : i.capValid = true) :
    pushedDurations p ins ≠ [] := by
  simpa [pushedDurations] using ⟨i, hi, hv⟩

/-- While the buffer is empty or has a gap at the front and room behind it, the decoder idles or waits. -/
theorem State.act_of_collecting {s : State} (hfront : ∀ d ∈ s.buf.head?, s.params.syncThr ≤ d)
    (hroom : s.buf.length < s.params.cap) : s.act ≠ .trim ∧ s.act ≠ .decode := by
  rcases hb : s.buf with _ | ⟨d, l⟩
  · simp [State.act_of_nil hb]
  · have hd : s.params.syncThr ≤ d := hfront d (by simp [hb])
    have ha : s.act = .wait := s.act_wait_iff.mpr ⟨d, l, hb, hd, hroom⟩
    simp [ha]

/-- Pushes that, behind what the buffer holds, begin with a gap and do not exceed a frame are collected, with no decode
before the last of them. -/
theorem State.after_collecting {ins rest : List Inputs} {s : State} (hs : s.Ready) (hpend : s.pending = ins ++ rest)
    (hrst : ∀ i ∈ ins, i.rst = false)
    (hfront : ∀ d ∈ (s.buf ++ pushedDurations s.params ins).head?, s.params.syncThr ≤ d)
    (hfit : (s.buf ++ pushedDurations s.params ins).length ≤ s.params.cap)
    (hlast : ∀ i ∈ ins.getLast?, i.capValid = true) :
    s.quietFor ins.length ∧ ∃ t, s.after ins.length = some t ∧ t.Ready ∧ t.params = s.params ∧
      t.buf = s.buf ++ pushedDurations s.params ins ∧ t.pending = rest := by
  induction ins generalizing s with
  | nil => exact ⟨trivial, s, State.after_zero s, hs, rfl, by simp [pushedDurations], hpend⟩
  | cons i ins ih =>
    have hinput : s.input = i := State.input_of_pending hpend
    obtain ⟨hr, hrst⟩ := List.forall_mem_cons.mp hrst
    rw [← hinput] at hr
    have hpushed : pushedDurations s.params (i :: ins) ≠ [] :=
      pushedDurations_ne_nil (List.getLast_mem (List.cons_ne_nil i ins))
        (hlast _ (List.getLast?_eq_some_getLast (List.cons_ne_nil i ins)))
    have hroom : s.buf.length < s.params.cap := by
      have := List.length_pos_of_ne_nil hpushed
      rw [List.length_append] at hfit
      omega
    obtain ⟨hnt, hnd⟩ := State.act_of_collecting
      (fun d hd => hfront d (by simp [Option.mem_def.mp hd])) hroom
    have hbuf : s.buf ++ pushedDurations s.params (i :: ins) =
        (phaseNext s).buf ++ pushedDurations (phaseNext s).params ins := by
      rw [pushedDurations_cons, phaseNext_buf_of_not_decode hnd, if_neg hnt, List.append_assoc, State.capDur, hinput,
        phaseNext_params]
    rw [hbuf] at hfront hfit ⊢
    obtain ⟨hq, t, ht, hready, hparams, htb, htp⟩ := ih (phaseNext_ready hs)
      (by rw [phaseNext_pending, hpend]; rfl) hrst hfront hfit
      (fun j hj => hlast j (by rw [List.getLast?_cons, Option.mem_def.mp hj]; rfl))
    exact ⟨State.quietFor_succ hr hnd hq, t, (State.after_succ_of_not_rst hs hr _).trans ht, hready, hparams, htb, htp⟩

/-- Settles O56: it holds; the pushes are collected whatever stands between them, and the buffer that then holds a
whole frame selects DECODE. -/
theorem completeFrameIsDecoded : Obligations.CompleteFrameIsDecoded := by
  unfold Obligations.CompleteFrameIsDecoded
  intro s ins pushes more first lastPush next hs hb hpend hins hpushes hcap hfirst hgap hlast hvalid hnext
  have hframe : s.buf ++ pushedDurations s.params ins = pushes.map Inputs.capDur := by
    rw [hb, List.nil_append, pushedDurations_eq_map fun i hi => (hins i hi).2, hpushes]
  have hhead : (pushes.map Inputs.capDur).head? = some first.capDur := by rw [List.head?_map, hfirst]; rfl
  obtain ⟨hq, t, ht, hready, hparams, htb, htp⟩ := State.after_collecting hs hpend (fun i hi => (hins i hi).1)
    (by rw [hframe, hhead]; simpa using hgap) (by rw [hframe, List.length_map, hcap]) (by simpa [hlast] using hvalid)
  rw [hframe] at htb
  have hlen : t.params.cap ≤ t.buf.length := by rw [htb, List.length_map, hcap, hparams]
  have hdec : t.act = .decode := by
    obtain ⟨l, hl⟩ := List.head?_eq_some_iff.mp hhead
    exact t.act_decode_iff.mpr ⟨_, l, htb.trans hl, by rwa [hparams], hlen⟩
  have hrst : t.input.rst = false := by rwa [State.input_of_pending htp]
  have hwd : (phaseNext t).wd = 0 := phaseWd_of_decode hdec
  refine ⟨hq, phaseNext t, ?_, phaseNext_buf_of_decode hdec, phaseNext_chValid_of_decode hdec, hwd, ?_, ?_, ?_, ?_,
    fun i hi => ?_⟩
  · rw [State.after_add ht, State.after_succ_of_not_rst hready hrst, State.after_zero]
  · simp [phaseNext_ind, phaseWd_of_decode hdec, hdec]
  · simp [phaseNext_outs, hdec]
  · rw [phaseNext_pending, htp, List.tail_cons]
  · rw [phaseNext_ch_of_decode hdec, phaseVector_length, hparams]
  · obtain ⟨a, b, ha, hb, hlane⟩ := phaseVector_lane hlen (hparams ▸ hi)
    rw [State.bufRead, htb, List.getElem?_map, Option.map_eq_some_iff] at ha hb
    obtain ⟨x, hx, rfl⟩ := ha
    obtain ⟨y, hy, rfl⟩ := hb
    exact ⟨x, y, hx, hy, by rw [phaseNext_ch_of_decode hdec, hlane, hparams]⟩

end Sys2Proof.Machine
end

section
/-! PROOF. What a cycle reads of the policy: nothing but in a decode cycle (43_control_policy.md R180). -/

namespace Sys2Proof.Machine

theorem phaseCommand_of_not_decode {s : State} (hd : s.act ≠ .decode) : phaseCommand s = (s.cmdSteer, s.cmdThr) := by
  simp [phaseCommand, hd]

/-- Phase 5 is the only phase of R111 that asks the policy, and outside a decode cycle it keeps the command. -/
theorem phaseNext_withPolicy {s : State} (q : Policy) (hd : s.act ≠ .decode) :
    phaseNext { s with policy := q } = { phaseNext s with policy := q } := by
  have hcmd : phaseCommand { s with policy := q } = phaseCommand s :=
    (phaseCommand_of_not_decode (s := { s with policy := q }) hd).trans (phaseCommand_of_not_decode hd).symm
  ext1
  case cmdSteer => simp only [phaseNext_cmdSteer, hcmd]; rfl
  case cmdThr => simp only [phaseNext_cmdThr, hcmd]; rfl
  all_goals rfl

theorem ready_withPolicy {s : State} {q : Policy} (h : s.Ready) (hq : q.Allowed s.params) :
    State.Ready { s with policy := q } := by
  obtain ⟨⟨hp, -⟩, hv⟩ := h
  exact ⟨⟨hp, hq⟩, hv⟩

/-- Settles O52: it holds; RESET does not ask the policy, and without a decode the phases of R111 do not either. -/
theorem policyConsultedOnlyInDecodeCycles : Obligations.PolicyConsultedOnlyInDecodeCycles := by
  unfold Obligations.PolicyConsultedOnlyInDecodeCycles
  intro s t q hq hd ht
  obtain ⟨hs, ⟨hr, rfl⟩ | ⟨hr, rfl⟩⟩ := step_next_cases ht
  · exact step_of_rst (ready_withPolicy hs hq) hr
  · rw [step_of_not_rst (ready_withPolicy hs hq) hr, phaseNext_withPolicy q hd]

end Sys2Proof.Machine
end

section
/-! PROOF. The reference policy on exact rationals: its modes (43_control_policy.md R182, R188), its codes (R183 to
R187) and their range (R181). -/

namespace Sys2Proof.Machine

/-! ### The mode, by the value of channel 2 -/

theorem referenceMode_eq_raw {v : Rat} (h : v < 33 / 100) : referenceMode v = .raw := if_pos h

theorem referenceMode_eq_steerAssist {v : Rat} (h : 33 / 100 ≤ v) (h' : v < 66 / 100) :
    referenceMode v = .steerAssist := by
  rw [referenceMode, if_neg (not_lt.mpr h), if_pos h']

theorem referenceMode_eq_unmapped {v : Rat} (h : 66 / 100 ≤ v) : referenceMode v = .unmapped := by
  have h33 : ¬ v < 33 / 100 := by linarith
  rw [referenceMode, if_neg h33, if_neg (not_lt.mpr h)]

theorem referenceOn_of_raw (v0 v1 : Rat) {v2 : Rat} (h : v2 < 33 / 100) : referenceOn v0 v1 v2 = policyRaw v0 v1 := by
  rw [referenceOn, referenceMode_eq_raw h]

theorem referenceOn_of_steerAssist (v0 v1 : Rat) {v2 : Rat} (h : 33 / 100 ≤ v2) (h' : v2 < 66 / 100) :
    referenceOn v0 v1 v2 = policySteerAssist v0 v1 := by
  rw [referenceOn, referenceMode_eq_steerAssist h h']

theorem referenceOn_of_unmapped (v0 v1 : Rat) {v2 : Rat} (h : 66 / 100 ≤ v2) : referenceOn v0 v1 v2 = .hold := by
  rw [referenceOn, referenceMode_eq_unmapped h, policyUnmapped]

/-- An update is one of the two mapped modes' (43_control_policy.md R183 to R185). -/
theorem referenceOn_update {v0 v1 v2 : Rat} {steer : Nat} {thr : Int} (h : referenceOn v0 v1 v2 = .update steer thr) :
    steer = (toCode (steerDegrees v1)).toNat ∧
      (thr = toCode (rawThrottle v0) ∨ thr = toCode (rawThrottle v0 * turnReductionFactor v1)) := by
  rw [referenceOn] at h
  cases hm : referenceMode v2 with
  | raw =>
    obtain ⟨rfl, rfl⟩ := by simpa [hm, policyRaw] using h
    exact ⟨rfl, .inl rfl⟩
  | steerAssist =>
    obtain ⟨rfl, rfl⟩ := by simpa [hm, policySteerAssist] using h
    exact ⟨rfl, .inr rfl⟩
  | unmapped => simp [hm, policyUnmapped] at h

/-! ### Rounding toward zero (43_control_policy.md R186) -/

/-- Truncation does not need lowest terms: any fraction of `x * 1024` rounds to the code. -/
theorem toCode_eq_tdiv {x : Rat} {n d : Int} (hd : 0 < d) (h : x * 1024 = n / d) : toCode x = n.tdiv d := by
  obtain ⟨c, hn, hden⟩ := Rat.exists_eq_mul_div_num_and_eq_mul_div_den n hd.ne'
  rw [← h] at hn hden
  have hc : 0 < c := by
    rw [hden] at hd
    exact pos_of_mul_pos_left hd (Int.natCast_nonneg _)
  rw [toCode, ← Int.mul_tdiv_mul_of_pos _ _ hc, ← hn, ← hden]

theorem toCode_eq_of_mul_eq {x : Rat} {n : Int} (h : x * 1024 = n) : toCode x = n := by
  rw [toCode_eq_tdiv one_pos (n := n) (by rw [h, Int.cast_one, div_one]), Int.tdiv_one]

theorem natAbs_toCode_le {x : Rat} {n : Nat} (h : |x| ≤ n) : (toCode x).natAbs ≤ n * 1024 := by
  have hx : |x * 1024| ≤ n * 1024 := by
    rw [abs_mul, abs_of_pos (show (0 : Rat) < 1024 by norm_num)]
    gcongr
  have hnum : ((x * 1024).num.natAbs : Rat) ≤ (x * 1024).den * (n * 1024) := by
    calc ((x * 1024).num.natAbs : Rat) = |((x * 1024).num : Rat)| := by rw [Nat.cast_natAbs, Int.cast_abs]
      _ = (x * 1024).den * |x * 1024| := by rw [← Rat.den_mul_eq_num, abs_mul, Nat.abs_cast]
      _ ≤ (x * 1024).den * (n * 1024) := by gcongr
  rw [toCode, Int.natAbs_tdiv]
  exact Nat.div_le_of_le_mul (by exact_mod_cast hnum)

/-! ### The channel values and the quantities of R183 and R184 -/

theorem ratAbs_eq_abs (x : Rat) : ratAbs x = |x| := by
  unfold ratAbs
  split_ifs with h
  · exact (abs_of_neg h).symm
  · exact (abs_of_nonneg (not_lt.mp h)).symm

theorem channelValue_eq_div (p : Params) (vec : List Nat) (k : Nat) :
    channelValue p vec k = (vec.getD k 0 : Rat) / p.scale := by
  rw [channelValue, Rat.mkRat_eq_div, Int.cast_natCast]

theorem channelValue_nonneg (p : Params) (vec : List Nat) (k : Nat) : 0 ≤ channelValue p vec k := by
  rw [channelValue_eq_div]
  positivity

theorem channelValue_le_one {p : Params} {vec : List Nat} (hvec : ∀ c ∈ vec, c ≤ p.scale) (k : Nat) :
    channelValue p vec k ≤ 1 := by
  have hcode : vec.getD k 0 ≤ p.scale := by
    rw [List.getD_eq_getElem?_getD]
    cases hk : vec[k]? with
    | none => exact Nat.zero_le _
    | some c => exact hvec c (List.mem_of_getElem? hk)
  rw [channelValue_eq_div]
  exact div_le_one_of_le₀ (by exact_mod_cast hcode) (Nat.cast_nonneg _)

theorem abs_steerDegrees_le {v : Rat} (h0 : 0 ≤ v) (h1 : v ≤ 1) : |steerDegrees v| ≤ 180 := by
  rw [steerDegrees, abs_le]
  constructor <;> linarith

theorem abs_rawThrottle_le {v : Rat} (h0 : 0 ≤ v) (h1 : v ≤ 1) : |rawThrottle v| ≤ 1 := by
  rw [rawThrottle, abs_le]
  constructor <;> linarith

/-- A full turn leaves 0.3 of the throttle, and none leaves all of it. -/
theorem abs_turnReductionFactor_le {v : Rat} (h0 : 0 ≤ v) (h1 : v ≤ 1) : |turnReductionFactor v| ≤ 1 := by
  have hhalf : |v - 1 / 2| ≤ 1 / 2 := abs_le.mpr (by constructor <;> linarith)
  have hpos := abs_nonneg (v - 1 / 2)
  rw [turnReductionFactor, ratAbs_eq_abs, abs_le]
  constructor <;> linarith

/-! ### The range of the commands -/

/-- The ports of a legal block are wide enough for every command in the actuators' range (30_encoding.md R88, R89). -/
theorem policyPorts_of_inRange {p : Params} (hp : p.Legal) {steer : Nat} {thr : Int} (hs : steer ≤ 184320)
    (hlo : -1024 ≤ thr) (hhi : thr ≤ 1024) : policyPorts p (.update steer thr) = .update steer thr := by
  obtain ⟨-, -, -, -, -, hsteerW, hthrW, -⟩ := hp
  have hsteer : 2 ^ 18 ≤ 2 ^ p.steerW := Nat.pow_le_pow_right (by decide) hsteerW
  have hthr : 2 ^ 12 ≤ 2 ^ p.thrW := Nat.pow_le_pow_right (by decide) hthrW
  rw [policyPorts, Nat.mod_eq_of_lt (by omega), Int.bmod_eq_of_le_mul_two (by omega) (by omega)]

/-- Settles O60: it holds; the values are in `[0, 1]`, so the angle is at most 180 and the throttle, a product of two
factors in `[-1, 1]`, in `[-1, 1]`, and truncation does not leave the range. -/
theorem referencePolicyStaysInRange : Obligations.ReferencePolicyStaysInRange := by
  unfold Obligations.ReferencePolicyStaysInRange
  intro p vec hp hvec steer thr h
  have h0 := channelValue_nonneg p vec
  have h1 := channelValue_le_one hvec
  obtain ⟨hsteer, hthr⟩ := referenceOn_update h
  have hsteerRange : steer ≤ 184320 := by
    have := natAbs_toCode_le (n := 180) (abs_steerDegrees_le (h0 1) (h1 1))
    omega
  have hthrottle := abs_rawThrottle_le (h0 0) (h1 0)
  have hthrRange : thr.natAbs ≤ 1 * 1024 := by
    obtain rfl | rfl := hthr
    · exact natAbs_toCode_le (by exact_mod_cast hthrottle)
    · refine natAbs_toCode_le ?_
      rw [abs_mul, Nat.cast_one]
      exact mul_le_one₀ hthrottle (abs_nonneg _) (abs_turnReductionFactor_le (h0 1) (h1 1))
  have hlo : -1024 ≤ thr := by omega
  have hhi : thr ≤ 1024 := by omega
  exact ⟨hsteerRange, hlo, hhi, policyPorts_of_inRange hp hsteerRange hlo hhi⟩

/-! ### The codes with SCALE = 1024 -/

theorem toCode_steerDegrees_code (n : Nat) : toCode (steerDegrees (n / 1024)) = (180 * n : Nat) :=
  toCode_eq_of_mul_eq (by rw [steerDegrees]; push_cast; ring)

theorem toCode_rawThrottle_code (n : Nat) : toCode (rawThrottle (n / 1024)) = 2 * (n : Int) - 1024 :=
  toCode_eq_of_mul_eq (by rw [rawThrottle]; push_cast; ring)

/-- R187's exact form of `1 - 0.7 * 2 * |v_1 - 0.5|`. -/
theorem turnReductionFactor_code (n : Nat) :
    turnReductionFactor (n / 1024) = (10240 - 7 * |2 * (n : Rat) - 1024|) / 10240 := by
  have hcode : (n : Rat) / 1024 - 1 / 2 = (2 * n - 1024) / 2048 := by ring
  rw [turnReductionFactor, ratAbs_eq_abs, hcode, abs_div, abs_of_pos (show (0 : Rat) < 2048 by norm_num)]
  ring

theorem toCode_assistThrottle_code (n0 n1 : Nat) :
    toCode (rawThrottle (n0 / 1024) * turnReductionFactor (n1 / 1024)) =
      ((2 * (n0 : Int) - 1024) * (10240 - 7 * |2 * (n1 : Int) - 1024|)).tdiv 10240 := by
  refine toCode_eq_tdiv (by decide) ?_
  rw [turnReductionFactor_code, rawThrottle]
  push_cast
  ring

/-- Settles O57: it holds; the thresholds on codes are the integers next to 0.33 * 1024 and 0.66 * 1024. -/
theorem referencePolicyOnCodes : Obligations.ReferencePolicyOnCodes := by
  unfold Obligations.ReferencePolicyOnCodes
  intro p n0 n1 n2 more hscale _ _ _
  have hpolicy : referencePolicy p (n0 :: n1 :: n2 :: more) =
      referenceOn ((n0 : Rat) / 1024) ((n1 : Rat) / 1024) ((n2 : Rat) / 1024) := by
    simp [referencePolicy, channelValue_eq_div, hscale]
  rw [hpolicy]
  split_ifs with hraw hassist
  · have hv : (n2 : Rat) ≤ 337 := by exact_mod_cast hraw
    rw [referenceOn_of_raw _ _ (by linarith), policyRaw, toCode_steerDegrees_code, toCode_rawThrottle_code,
      Int.toNat_natCast]
  · have hv : (338 : Rat) ≤ n2 := by exact_mod_cast Nat.lt_of_not_le hraw
    have hv' : (n2 : Rat) ≤ 675 := by exact_mod_cast hassist
    rw [referenceOn_of_steerAssist _ _ (by linarith) (by linarith), policySteerAssist, toCode_steerDegrees_code,
      toCode_assistThrottle_code, Int.toNat_natCast]
  · have hv : (676 : Rat) ≤ n2 := by exact_mod_cast Nat.lt_of_not_le hassist
    exact referenceOn_of_unmapped _ _ (by linarith)

/-! ### The values that the source gives -/

/-- A value is a code over 1024 only where 1024 clears its denominator, be it in lowest terms or not. -/
theorem code_ne_fraction {a b : Nat} (hb : b ≠ 0) (hdvd : ¬ b ∣ a * 1024) (n : Nat) : (n : Rat) / 1024 ≠ a / b := by
  intro h
  rw [div_eq_div_iff (by norm_num) (by exact_mod_cast hb)] at h
  exact hdvd (Dvd.intro_left n (by exact_mod_cast h))

/-- Settles O58: it holds; the comparisons are exact, and 1024 clears none of the four denominators. -/
theorem referenceModeBoundaries : Obligations.ReferenceModeBoundaries := by
  unfold Obligations.ReferenceModeBoundaries
  refine ⟨referenceMode_eq_raw (by norm_num), referenceMode_eq_steerAssist (by norm_num) (by norm_num),
    referenceMode_eq_steerAssist (by norm_num) (by norm_num), referenceMode_eq_unmapped (by norm_num),
    fun v0 v1 => referenceOn_of_unmapped v0 v1 le_rfl, fun n => ?_⟩
  simp only [List.forall_mem_cons]
  exact ⟨code_ne_fraction (a := 329999) (b := 1000000) (by decide) (by decide) n,
    code_ne_fraction (a := 33) (b := 100) (by decide) (by decide) n,
    code_ne_fraction (a := 659999) (b := 1000000) (by decide) (by decide) n,
    code_ne_fraction (a := 66) (b := 100) (by decide) (by decide) n, List.forall_mem_nil _⟩

/-- Settles O59: it holds; in E5 the throttle is `trunc(0.3 * 1024)`, and the other codes need no rounding. -/
theorem referencePolicyExamples : Obligations.ReferencePolicyExamples := by
  unfold Obligations.ReferencePolicyExamples
  have hassist : rawThrottle 1 * turnReductionFactor 1 * 1024 = (3072 : Int) / (10 : Int) := by
    norm_num [rawThrottle, turnReductionFactor, ratAbs]
  refine ⟨?_, ?_, referenceOn_of_unmapped 1 0 le_rfl⟩
  · rw [referenceOn_of_raw _ _ (by norm_num), policyRaw,
      toCode_eq_of_mul_eq (n := 92160) (by norm_num [steerDegrees]),
      toCode_eq_of_mul_eq (n := 512) (by norm_num [rawThrottle])]
    rfl
  · rw [referenceOn_of_steerAssist _ _ (by norm_num) (by norm_num), policySteerAssist,
      toCode_eq_of_mul_eq (n := 184320) (by norm_num [steerDegrees]), toCode_eq_tdiv (by decide) hassist]
    rfl

end Sys2Proof.Machine
end

section
/-! PROOF. The watchdog in one cycle (44_watchdog.md R202 to R205): its operations, the count that a cycle leaves, and
the comparison that the override and the failsafe output make with it. -/

namespace Sys2Proof.Machine

/-! ### The three operations -/

/-- Settles O31: it holds by the meanings of the three operations. -/
theorem watchdogOperations : Obligations.WatchdogOperations := by
  unfold Obligations.WatchdogOperations
  exact fun s => ⟨rfl, rfl, rfl⟩

/-! ### The count that a cycle leaves -/

theorem phaseWd_of_tick {s : State} (hd : s.act ≠ .decode) (ht : s.input.usTick = true) :
    phaseWd s = min (s.wd + 1) (s.params.timeout + 1) := by
  rw [phaseWd_of_not_decode hd, if_pos ht, saturatingTick]

theorem phaseWd_of_no_tick {s : State} (hd : s.act ≠ .decode) (ht : s.input.usTick = false) : phaseWd s = s.wd := by
  rw [phaseWd_of_not_decode hd, ht, if_neg Bool.false_ne_true]

/-- A tick counts one and its absence nothing, both within the saturation that the count already obeys. -/
theorem phaseWd_eq_min {s : State} (hd : s.act ≠ .decode) (hw : s.wd ≤ s.params.timeout + 1) :
    phaseWd s = min (s.wd + s.input.usTick.toNat) (s.params.timeout + 1) := by
  cases ht : s.input.usTick with
  | true => exact phaseWd_of_tick hd ht
  | false => rw [phaseWd_of_no_tick hd ht, Bool.toNat_false, Nat.add_zero, Nat.min_eq_left hw]

theorem State.failsafe_iff (s : State) : s.failsafe = true ↔ s.params.timeout < s.wd := decide_eq_true_iff

theorem State.failsafe_of_wd_eq {s t : State} (hp : t.params = s.params) (hw : t.wd = s.wd) :
    t.failsafe = s.failsafe := by
  rw [State.failsafe, State.failsafe, hp, hw]

/-- Settles O41: it holds; the operation that the condition word selects is the case of phase 6 that gives the count. -/
theorem watchdogUnitRules : Obligations.WatchdogUnitRules := by
  unfold Obligations.WatchdogUnitRules
  intro s t ht hr
  obtain rfl := eq_phaseNext_of_step ht hr
  refine ⟨_, _, _, _, State.decode_conditionWord hr, ?_⟩
  by_cases hd : s.act = .decode
  · simp [hd, phaseWd_of_decode hd, State.failsafe]
  · cases htick : s.input.usTick with
    | true => simp [hd, phaseWd_of_tick hd htick, State.failsafe_iff]
    | false =>
      have hw := phaseWd_of_no_tick hd htick
      simpa [hd, hw] using State.failsafe_of_wd_eq (phaseNext_params s) hw

/-! ### The override's condition (R205) -/

theorem State.conditionWord_dec (s : State) : s.conditionWord.getLsbD 0 = decide (s.act = .decode) :=
  congrArg CwBits.dec s.ofWord_conditionWord

/-- The new count is past `TIMEOUT` where EXP is 1 and DEC is 0: EXP leaves out the clear of a decode cycle. -/
theorem timeout_lt_phaseWd_iff (s : State) :
    s.params.timeout < phaseWd s ↔ s.expires = true ∧ s.act ≠ .decode := by
  by_cases hd : s.act = .decode
  · simp [hd, phaseWd_of_decode hd]
  · simp [hd, State.expires_eq hd]

theorem phaseNext_indFsStb (s : State) : (phaseNext s).outs.indFsStb = true ↔ s.params.timeout < phaseWd s :=
  decide_eq_true_iff

/-- Settles O43: it holds; the strobe, the condition word and the failsafe output all compare the count of phase 6,
which saturates at `TIMEOUT + 1`. -/
theorem overrideCondition : Obligations.OverrideCondition := by
  unfold Obligations.OverrideCondition
  intro s t ht hr
  have ⟨_, _, _, hwd, _⟩ := ready_of_step_next ht
  have hle : phaseWd s ≤ s.params.timeout + 1 := phaseWd_le hwd
  obtain rfl := eq_phaseNext_of_step ht hr
  refine ⟨phaseNext_indFsStb s, ?_, ?_, (ofBool_eq_one_iff _).trans (State.failsafe_iff _)⟩
  · rw [phaseNext_wd]
    omega
  · rw [phaseNext_indFsStb, timeout_lt_phaseWd_iff, State.conditionWord_exp, State.conditionWord_dec,
      decide_eq_false_iff_not]

end Sys2Proof.Machine
end

section
/-! PROOF. The watchdog over runs without a decode or a reset: failsafe lasts (44_watchdog.md R206), and it begins at
the `TIMEOUT + 1`-th tick (R203, R208, R209). -/

namespace Sys2Proof.Machine

/-! ### What every run keeps -/

/-- The induction over the cycles of any run, resets and decodes among them. -/
theorem State.after_induction {P : State → Prop} (hstep : ∀ s t, P s → step s = .next t → P t) {k : Nat} {s t : State}
    (hs : P s) (ht : s.after k = some t) : P t := by
  induction k generalizing s with
  | zero =>
    obtain rfl : s = t := by simpa using ht
    exact hs
  | succ k ih =>
    obtain ⟨u, hu, hut⟩ := State.after_succ_eq_some ht
    exact ih (hstep s u hs hu) hut

theorem State.Inv.after {k : Nat} {s t : State} (h : s.Inv) (ht : s.after k = some t) : t.Inv :=
  State.after_induction stepKeepsInvariants h ht

theorem step_params {s t : State} (h : step s = .next t) : t.params = s.params := by
  obtain ⟨-, ⟨-, rfl⟩ | ⟨-, rfl⟩⟩ := step_next_cases h <;> rfl

theorem State.after_params {k : Nat} {s t : State} (h : s.after k = some t) : t.params = s.params :=
  State.after_induction (P := fun u => u.params = s.params) (fun _ _ hu hstep => (step_params hstep).trans hu) rfl h

/-! ### Runs without a decode or a reset -/

/-- The first cycle of such a run is R111's phases, and the rest of the run follows it. -/
theorem State.quiet_run_cases {s t : State} {k : Nat} (hq : s.quietFor (k + 1)) (ht : s.after (k + 1) = some t) :
    s.Ready ∧ s.act ≠ .decode ∧ s.input.rst = false ∧ (phaseNext s).quietFor k ∧ (phaseNext s).after k = some t := by
  obtain ⟨hd, hr, hrest⟩ := hq
  obtain ⟨u, hu, hut⟩ := State.after_succ_eq_some ht
  obtain rfl := eq_phaseNext_of_step hu hr
  exact ⟨ready_of_step_next hu, hd, hr, hrest _ hu, hut⟩

theorem State.ticksOver_succ {s : State} (h : s.Ready) (hr : s.input.rst = false) (k : Nat) :
    s.ticksOver (k + 1) = s.input.usTick.toNat + (phaseNext s).ticksOver k := by
  simp [State.ticksOver, step_of_not_rst h hr]

/-! ### Failsafe lasts (R206) -/

/-- What the output unit leaves in a cycle of override (45_failsafe_override.md R223, R226), and the failsafe output
after it. -/
abbrev State.Overridden (t : State) : Prop :=
  t.failsafe = true ∧ t.outs.indFsStb = true ∧ t.CommandNeutral ∧ t.ind = .failsafe

theorem phaseNext_overridden {s : State} (h : s.params.timeout < phaseWd s) : (phaseNext s).Overridden := by
  refine ⟨(State.failsafe_iff _).mpr h, (phaseNext_indFsStb s).mpr h, ⟨?_, ?_⟩, ?_⟩
  · rw [phaseNext_cmdSteer, if_pos h, phaseNext_params]
  · rw [phaseNext_cmdThr, if_pos h, phaseNext_params]
  · rw [phaseNext_ind, if_pos h]

/-- In failsafe a cycle without a decode keeps the count past `TIMEOUT`, so it has the override. -/
theorem phaseNext_overridden_of_failsafe {s : State} (hs : s.Ready) (hd : s.act ≠ .decode) (hf : s.failsafe = true) :
    (phaseNext s).Overridden := by
  have ⟨_, _, _, hwd, _⟩ := hs
  exact phaseNext_overridden (((State.failsafe_iff s).mp hf).trans_le (le_phaseWd hd hwd))

theorem State.overridden_after_quiet_run {k : Nat} {s t : State} (hf : s.failsafe = true) (hq : s.quietFor (k + 1))
    (ht : s.after (k + 1) = some t) : t.Overridden := by
  induction k generalizing s with
  | zero =>
    obtain ⟨hs, hd, -, -, hut⟩ := State.quiet_run_cases hq ht
    obtain rfl : phaseNext s = t := by simpa using hut
    exact phaseNext_overridden_of_failsafe hs hd hf
  | succ k ih =>
    obtain ⟨hs, hd, -, hq', ht'⟩ := State.quiet_run_cases hq ht
    have ⟨hf', _⟩ := phaseNext_overridden_of_failsafe hs hd hf
    exact ih hf' hq' ht'

/-- Settles O45: it holds; without a decode or a reset the count does not fall, so every cycle of a run has the
override, and one that ends failsafe was a decode or a reset cycle. -/
theorem failsafePersists : Obligations.FailsafePersists := by
  unfold Obligations.FailsafePersists
  refine ⟨fun s t ht hr hd => ?_, fun k s t => State.overridden_after_quiet_run, fun s t ht hf hf' => ?_⟩
  · have ⟨_, _, _, hwd, _⟩ := ready_of_step_next ht
    obtain rfl := eq_phaseNext_of_step ht hr
    exact le_phaseWd hd hwd
  · by_contra! hquiet
    obtain ⟨hd, hr⟩ := hquiet
    obtain rfl := eq_phaseNext_of_step ht (Bool.eq_false_iff.mpr hr)
    have ⟨hstill, _⟩ := phaseNext_overridden_of_failsafe (ready_of_step_next ht) hd hf
    simp [hstill] at hf'

/-! ### Failsafe begins at the `TIMEOUT + 1`-th tick (R203, R208, R209) -/

/-- Every tick of the run counts one, up to the saturation; the single cycles' saturations add up to one. -/
theorem State.wd_after_quiet_run {k : Nat} {s t : State} (hw : s.wd ≤ s.params.timeout + 1) (hq : s.quietFor k)
    (ht : s.after k = some t) : t.wd = min (s.wd + s.ticksOver k) (s.params.timeout + 1) := by
  induction k generalizing s with
  | zero =>
    obtain rfl : s = t := by simpa using ht
    exact (Nat.min_eq_left hw).symm
  | succ k ih =>
    obtain ⟨hs, hd, hr, hq', ht'⟩ := State.quiet_run_cases hq ht
    have hrest : t.wd = min (phaseWd s + (phaseNext s).ticksOver k) (s.params.timeout + 1) := ih (phaseWd_le hw) hq' ht'
    rw [hrest, phaseWd_eq_min hd hw, State.ticksOver_succ hs hr]
    omega

/-- A run of no cycles needs no state in which a cycle runs, so the count may be past its range and then stays. -/
theorem State.wd_after_quiet_run_eq_ite {k : Nat} {s t : State} (hq : s.quietFor k) (ht : s.after k = some t) :
    t.wd = if s.ticksOver k = 0 then s.wd else min (s.wd + s.ticksOver k) (s.params.timeout + 1) := by
  cases k with
  | zero =>
    obtain rfl : s = t := by simpa using ht
    rfl
  | succ k =>
    obtain ⟨⟨-, -, -, hwd, -⟩, -⟩ := State.quiet_run_cases hq ht
    rw [State.wd_after_quiet_run hwd hq ht]
    split <;> omega

/-- Settles O54, by induction on the run: the count is the ticks, saturated one past `TIMEOUT`; (I4) and (I5) of R27
give what failsafe shows. -/
theorem failsafeAfterTimeoutTicks : Obligations.FailsafeAfterTimeoutTicks := by
  unfold Obligations.FailsafeAfterTimeoutTicks
  refine fun k s t hq ht => ⟨State.wd_after_quiet_run_eq_ite hq ht, fun h0 => ?_, fun hi hf => ?_⟩
  · rw [State.failsafe_iff, State.after_params ht, State.wd_after_quiet_run (by omega) hq ht, h0]
    omega
  · have hit := hi.after ht
    have hlt := (State.failsafe_iff t).mp hf
    exact ⟨hit.neutral hlt, hit.indFailsafe.mpr hlt⟩

end Sys2Proof.Machine
end

section
/-! PROOF. The output unit (45_failsafe_override.md): its operations (R221 to R227), what a cycle leaves of the command
and the indicator (R222 to R226), and the override state machine (R228). -/

namespace Sys2Proof.Machine

/-! ### The four operations -/

/-- A command of the ports' widths passes them as it is (10_state.md R43, 43_control_policy.md R181). -/
theorem policyPorts_of_fits {p : Params} {steer : Nat} {thr : Int} (hs : steer < 2 ^ p.steerW) (hw : 1 ≤ p.thrW)
    (ht : ThrFits p.thrW thr) : policyPorts p (.update steer thr) = .update steer thr := by
  obtain ⟨hlo, hhi⟩ := ht
  have hpow : ((2 ^ p.thrW : Nat) : Int) = 2 ^ (p.thrW - 1) * 2 := by
    rw [Nat.cast_pow, Nat.cast_ofNat, ← pow_succ, Nat.sub_add_cancel hw]
  rw [policyPorts, Nat.mod_eq_of_lt hs, Int.bmod_eq_of_le_mul_two (by omega) (by omega)]

theorem State.policyAnswer_of_decodeVector {s : State} {vec : List Nat} (h : s.decodeVector = some vec) :
    s.policyAnswer = some (policyPorts s.params (Policy.answer s.params s.policy vec)) := by
  rw [State.policyAnswer, h]

theorem exec_outUpdate_of_update {s : State} {steer : Nat} {thr : Int}
    (h : s.policyAnswer = some (.update steer thr)) :
    exec .outUpdate s = .next (s.setCommand steer thr).signalAlive := by
  simp [exec, execOutUpdate, h]

/-- Settles O32: it holds; a command that fits its ports is the policy's answer as the unit sees it. -/
theorem updateWritesThePolicysCommand : Obligations.UpdateWritesThePolicysCommand := by
  unfold Obligations.UpdateWritesThePolicysCommand
  intro s vec steer thr hvec hans hs hw hlo hhi
  have hupdate : s.policyAnswer = some (.update steer thr) := by
    rw [State.policyAnswer_of_decodeVector hvec, hans, policyPorts_of_fits hs hw ⟨hlo, hhi⟩]
  exact exec_outUpdate_of_update hupdate

/-- Settles O33: it holds by the meanings of the three operations. -/
theorem outputOperations : Obligations.OutputOperations := by
  unfold Obligations.OutputOperations
  exact fun s => ⟨rfl, rfl, rfl⟩

/-! ### The command and the indicator of the next cycle -/

theorem phasePolicy_of_policyAnswer {s : State} {r : PolicyResult} (hd : s.act = .decode)
    (h : s.policyAnswer = some r) : phasePolicy s = r := by
  simpa [State.policyAnswer_eq_phasePolicy hd] using h

theorem phaseCommand_of_update {s : State} {steer : Nat} {thr : Int} (hd : s.act = .decode)
    (h : s.policyAnswer = some (.update steer thr)) : phaseCommand s = (steer, thr) := by
  simp [phaseCommand, hd, phasePolicy_of_policyAnswer hd h]

theorem phaseCommand_of_hold {s : State} (hd : s.act = .decode) (h : s.policyAnswer = some .hold) :
    phaseCommand s = (s.cmdSteer, s.cmdThr) := by
  simp [phaseCommand, phasePolicy_of_policyAnswer hd h]

/-- A decode cycle clears the count, so the cycle has no override (R223). -/
theorem phaseWd_le_timeout_of_decode {s : State} (hd : s.act = .decode) : phaseWd s ≤ s.params.timeout := by
  rw [phaseWd_of_decode hd]
  exact Nat.zero_le _

/-- Without override the command is phase 5's (40_cycle.md R111). -/
theorem phaseNext_command {s : State} (h : phaseWd s ≤ s.params.timeout) :
    (phaseNext s).cmdSteer = (phaseCommand s).1 ∧ (phaseNext s).cmdThr = (phaseCommand s).2 :=
  ⟨if_neg h.not_gt, if_neg h.not_gt⟩

theorem phaseNext_command_of_update {s : State} {steer : Nat} {thr : Int} (hd : s.act = .decode)
    (h : s.policyAnswer = some (.update steer thr)) :
    (phaseNext s).cmdSteer = steer ∧ (phaseNext s).cmdThr = thr := by
  simpa [phaseCommand_of_update hd h] using phaseNext_command (phaseWd_le_timeout_of_decode hd)

theorem phaseNext_command_of_hold {s : State} (hd : s.act = .decode) (h : s.policyAnswer = some .hold) :
    (phaseNext s).cmdSteer = s.cmdSteer ∧ (phaseNext s).cmdThr = s.cmdThr := by
  simpa [phaseCommand_of_hold hd h] using phaseNext_command (phaseWd_le_timeout_of_decode hd)

theorem phaseNext_command_of_not_decode {s : State} (hd : s.act ≠ .decode) (h : phaseWd s ≤ s.params.timeout) :
    (phaseNext s).cmdSteer = s.cmdSteer ∧ (phaseNext s).cmdThr = s.cmdThr := by
  simpa [phaseCommand_of_not_decode hd] using phaseNext_command h

theorem phaseNext_ind_of_decode {s : State} (hd : s.act = .decode) : (phaseNext s).ind = .alive := by
  rw [phaseNext_ind, if_neg (phaseWd_le_timeout_of_decode hd).not_gt, if_pos hd]

theorem phaseNext_ind_of_not_decode {s : State} (hd : s.act ≠ .decode) (h : phaseWd s ≤ s.params.timeout) :
    (phaseNext s).ind = s.ind := by
  rw [phaseNext_ind, if_neg h.not_gt, if_neg hd]

theorem phaseNext_indFsStb_eq_false {s : State} (h : phaseWd s ≤ s.params.timeout) :
    (phaseNext s).outs.indFsStb = false :=
  decide_eq_false h.not_gt

theorem phaseNext_failsafe_eq_false {s : State} (h : phaseWd s ≤ s.params.timeout) : (phaseNext s).failsafe = false :=
  decide_eq_false h.not_gt

/-! ### The output unit's operation of a cycle (R221 to R224) -/

/-- The output unit's operation among those that a non-reset cycle's condition word selects (30_encoding.md R97). -/
def State.outInstr (s : State) : Instr :=
  if s.act = .decode then (if s.policyUpdates then .outUpdate else .outPolicyHold)
  else if s.expires then .outOverride else .outHold

theorem State.decode_conditionWord_outInstr {s : State} (hr : s.input.rst = false) :
    ∃ d c w, decode s.conditionWord = .ok (.ops d c w s.outInstr) :=
  ⟨_, _, _, State.decode_conditionWord hr⟩

theorem State.outInstr_of_decode {s : State} (hd : s.act = .decode) :
    s.outInstr = if s.policyUpdates then .outUpdate else .outPolicyHold := if_pos hd

/-- Without a decode, EXP is the comparison with the new count. -/
theorem State.outInstr_of_not_decode {s : State} (hd : s.act ≠ .decode) :
    s.outInstr = if s.params.timeout < phaseWd s then .outOverride else .outHold := by
  simp [State.outInstr, hd, State.expires_eq hd]

theorem State.outInstr_eq_outPolicyHold_iff (s : State) :
    s.outInstr = .outPolicyHold ↔ s.act = .decode ∧ s.policyAnswer = some .hold := by
  by_cases hd : s.act = .decode
  · rw [State.outInstr_of_decode hd, ← State.policyUpdates_eq_false_iff hd]
    simp [hd]
  · rw [State.outInstr_of_not_decode hd]
    split <;> simp [hd]

theorem State.outInstr_eq_outOverride_iff (s : State) :
    s.outInstr = .outOverride ↔ s.act ≠ .decode ∧ s.params.timeout < phaseWd s := by
  by_cases hd : s.act = .decode
  · rw [State.outInstr_of_decode hd]
    split <;> simp [hd]
  · rw [State.outInstr_of_not_decode hd]
    simp [hd]

theorem State.outInstr_eq_outHold_iff (s : State) :
    s.outInstr = .outHold ↔ s.act ≠ .decode ∧ phaseWd s ≤ s.params.timeout := by
  by_cases hd : s.act = .decode
  · rw [State.outInstr_of_decode hd]
    split <;> simp [hd]
  · rw [State.outInstr_of_not_decode hd]
    simp [hd]

/-- Settles O42: it holds; each operation's condition says which case of phase 5 and of the override the cycle is. -/
theorem outputUnitRules : Obligations.OutputUnitRules := by
  unfold Obligations.OutputUnitRules
  intro s t ht hr
  obtain ⟨d, c, w, hdecode⟩ := State.decode_conditionWord_outInstr hr
  obtain rfl := eq_phaseNext_of_step ht hr
  refine ⟨d, c, w, s.outInstr, hdecode, s.outInstr_eq_outPolicyHold_iff, s.outInstr_eq_outOverride_iff,
    s.outInstr_eq_outHold_iff, fun ho => ?policyHold, fun ho => ?override, fun ho => ?hold⟩
  case policyHold =>
    obtain ⟨hd, hans⟩ := s.outInstr_eq_outPolicyHold_iff.mp ho
    obtain ⟨hsteer, hthr⟩ := phaseNext_command_of_hold hd hans
    exact ⟨hsteer, hthr, phaseNext_ind_of_decode hd, phaseWd_of_decode hd,
      phaseNext_indFsStb_eq_false (phaseWd_le_timeout_of_decode hd)⟩
  case override =>
    obtain ⟨hd, hw⟩ := s.outInstr_eq_outOverride_iff.mp ho
    obtain ⟨hfs, hstb, hcmd, hind⟩ := phaseNext_overridden hw
    exact ⟨hcmd, hind, hstb, hfs, fun q hq => policyConsultedOnlyInDecodeCycles s _ q hq hd ht⟩
  case hold =>
    obtain ⟨hd, hw⟩ := s.outInstr_eq_outHold_iff.mp ho
    obtain ⟨hsteer, hthr⟩ := phaseNext_command_of_not_decode hd hw
    exact ⟨hsteer, hthr, phaseNext_ind_of_not_decode hd hw, phaseNext_indFsStb_eq_false hw⟩

/-! ### The override state machine (R228) -/

/-- A decode on which the policy holds leaves the command as the override left it: in failsafe that is NEUTRAL, by (I5)
of 10_state.md R27. -/
theorem phaseNext_commandNeutral_of_hold {s : State} (hi : s.Inv) (hf : s.failsafe = true) (hd : s.act = .decode)
    (h : s.policyAnswer = some .hold) : (phaseNext s).CommandNeutral := by
  obtain ⟨hsteer, hthr⟩ := hi.neutral ((State.failsafe_iff s).mp hf)
  obtain ⟨hsteer', hthr'⟩ := phaseNext_command_of_hold hd h
  exact ⟨hsteer'.trans hsteer, hthr'.trans hthr⟩

/-- A reset cycle goes to NORMAL (70_reset_and_hazards.md R270). -/
theorem State.loadReset_normal (s : State) :
    s.loadReset.nextCycle.failsafe = false ∧ s.loadReset.nextCycle.CommandNeutral ∧
      s.loadReset.nextCycle.ind = .none :=
  ⟨decide_eq_false (Nat.not_lt_zero _), ⟨rfl, rfl⟩, rfl⟩

/-- Settles O44: it holds, row by row: a reset, a decode, and without either the count of phase 6, which failsafe keeps
past `TIMEOUT`. -/
theorem overrideStateMachine : Obligations.OverrideStateMachine := by
  unfold Obligations.OverrideStateMachine
  intro s t ht
  obtain ⟨hs, ⟨hr, rfl⟩ | ⟨hr, rfl⟩⟩ := step_next_cases ht
  case inl =>
    simpa [hr] using s.loadReset_normal
  case inr =>
    refine ⟨by simp [hr], fun _ hd => ?decode, fun _ hd _ => ⟨fun hw => ?normal, fun hw => ?entry⟩,
      fun _ hd hf => ?failsafe⟩
    case decode =>
      exact ⟨phaseNext_failsafe_eq_false (phaseWd_le_timeout_of_decode hd), phaseNext_ind_of_decode hd,
        fun _ _ => phaseNext_command_of_update hd, phaseNext_command_of_hold hd,
        fun hi hf => phaseNext_commandNeutral_of_hold hi hf hd⟩
    case normal =>
      obtain ⟨hsteer, hthr⟩ := phaseNext_command_of_not_decode hd hw
      exact ⟨phaseNext_failsafe_eq_false hw, hsteer, hthr, phaseNext_ind_of_not_decode hd hw⟩
    case entry =>
      obtain ⟨hfs, -, hcmd, hind⟩ := phaseNext_overridden hw
      exact ⟨hfs, hcmd, hind⟩
    case failsafe =>
      obtain ⟨hfs, -, hcmd, hind⟩ := phaseNext_overridden_of_failsafe hs hd hf
      exact ⟨hfs, hcmd, hind⟩

end Sys2Proof.Machine
end

section
/-! PROOF. Exceptional behavior (60_exceptions.md): model faults (R245), events that meet in one cycle (R246), and
failsafe entry and exit (R247, R248). -/

namespace Sys2Proof.Machine

/-! ### The model fault IllegalState (R245) -/

/-- The check for values that are never produced comes before anything that reads an input (30_encoding.md R98). -/
theorem step_of_not_legalValues {s : State} (he : s.Elaborated) (hl : ¬ s.LegalValues) :
    step s = .fault .illegalState := by
  simp only [step, cycle]
  rw [if_pos he, if_neg hl]

/-- Settles O8: it holds; placing an input changes neither what the block is built with nor a register. -/
theorem illegalStateFaultsUnderEveryInput : Obligations.IllegalStateFaultsUnderEveryInput := by
  unfold Obligations.IllegalStateFaultsUnderEveryInput
  intro s i he hl
  exact step_of_not_legalValues (s := { s with pending := i :: s.pending }) he hl

/-! ### Failsafe entry (R247) -/

theorem State.failsafe_eq_false_iff (s : State) : s.failsafe = false ↔ s.wd ≤ s.params.timeout := by
  rw [Bool.eq_false_iff, ne_eq, State.failsafe_iff, Nat.not_lt]

/-- The count moves by at most one, so it passes `TIMEOUT` only by a tick that finds it there. -/
theorem timeout_lt_phaseWd_iff_tick {s : State} (hw : s.wd ≤ s.params.timeout) :
    s.params.timeout < phaseWd s ↔ s.act ≠ .decode ∧ s.input.usTick = true ∧ s.wd = s.params.timeout := by
  by_cases hd : s.act = .decode
  · simp [hd, phaseWd_of_decode hd]
  · cases htick : s.input.usTick with
    | true =>
      simp only [phaseWd_of_tick hd htick, ne_eq, hd, not_false_eq_true, true_and]
      omega
    | false => simpa [phaseWd_of_no_tick hd htick] using hw

theorem phaseWd_eq_of_timeout_lt {s : State} (hs : s.Ready) (h : s.params.timeout < phaseWd s) :
    phaseWd s = s.params.timeout + 1 := by
  have ⟨_, _, _, hwd, _⟩ := hs
  exact (phaseWd_le hwd).antisymm h

/-- Settles O46: it holds; a reset clears the count, and otherwise failsafe begins where phase 6 takes it past
`TIMEOUT`, in a cycle that pops and pushes like any other without a decode. -/
theorem failsafeEntry : Obligations.FailsafeEntry := by
  unfold Obligations.FailsafeEntry
  intro s t ht hf
  have hw : s.wd ≤ s.params.timeout := s.failsafe_eq_false_iff.mp hf
  obtain ⟨hs, ⟨hr, rfl⟩ | ⟨hr, rfl⟩⟩ := step_next_cases ht
  case inl =>
    obtain ⟨hnormal, -, -⟩ := s.loadReset_normal
    simp [hnormal, hr]
  case inr =>
    have hentry : (phaseNext s).failsafe = true ↔ s.params.timeout < phaseWd s := State.failsafe_iff _
    refine ⟨by simp [hentry, hr, timeout_lt_phaseWd_iff_tick hw], fun hf' => ?_⟩
    have hlt := hentry.mp hf'
    obtain ⟨hd, -, -⟩ := (timeout_lt_phaseWd_iff_tick hw).mp hlt
    obtain ⟨-, -, hcmd, hind⟩ := phaseNext_overridden hlt
    exact ⟨phaseWd_eq_of_timeout_lt hs hlt, hcmd, hind, phaseNext_ch_of_not_decode hd,
      phaseNext_chValid_of_not_decode hd, phaseNext_buf_of_not_decode hd⟩

/-! ### Failsafe exit (R248) -/

theorem State.failsafe_eq_false_of_wd_eq_zero {s : State} (h : s.wd = 0) : s.failsafe = false := by
  rw [State.failsafe_eq_false_iff, h]
  exact Nat.zero_le _

/-- A reset and a decode clear the count (44_watchdog.md R202, 70_reset_and_hazards.md R270). -/
theorem step_wd_of_rst_or_decode {s t : State} (ht : step s = .next t) (h : s.input.rst = true ∨ s.act = .decode) :
    t.wd = 0 := by
  obtain ⟨-, ⟨-, rfl⟩ | ⟨hr, rfl⟩⟩ := step_next_cases ht
  · rfl
  · exact phaseWd_of_decode (h.resolve_left (by simp [hr]))

/-- Settles O47: it holds; R206 leaves no other exits, and both clear the count. -/
theorem failsafeExit : Obligations.FailsafeExit := by
  unfold Obligations.FailsafeExit
  intro s t ht hf
  obtain ⟨-, -, honly⟩ := failsafePersists
  have hexit : t.failsafe = false → s.input.rst = true ∨ s.act = .decode := fun hf' => (honly s t ht hf hf').symm
  refine ⟨⟨hexit, fun h => State.failsafe_eq_false_of_wd_eq_zero (step_wd_of_rst_or_decode ht h)⟩,
    fun hf' => step_wd_of_rst_or_decode ht (hexit hf'), fun hr hd => ?decode⟩
  case decode =>
    obtain rfl := eq_phaseNext_of_step ht hr
    refine ⟨phaseNext_ind_of_decode hd, fun ⟨hsteer, hthr⟩ hhold => ?_⟩
    obtain ⟨hsteer', hthr'⟩ := phaseNext_command_of_hold hd hhold
    exact ⟨hsteer'.trans hsteer, hthr'.trans hthr⟩

/-! ### Events that meet in one cycle (R246) -/

/-- The push lands behind whatever the decoder's action leaves, whether or not there is a tick or an override. -/
theorem phaseNext_getLast? {s : State} (hd : s.act ≠ .decode) (hv : s.input.capValid = true) :
    (phaseNext s).buf.getLast? = some s.capDur := by
  rw [phaseNext_buf_of_not_decode hd, if_pos hv, List.getLast?_concat]

/-- The override is a cycle's without a decode, since a decode makes the new count 0. -/
theorem act_ne_decode_of_indFsStb {s : State} (h : (phaseNext s).outs.indFsStb = true) : s.act ≠ .decode := by
  obtain ⟨-, hd⟩ := (timeout_lt_phaseWd_iff s).mp ((phaseNext_indFsStb s).mp h)
  exact hd

/-- Settles O48: it holds; a reset gives RESET_STATE, and each other point is what the phases of R111 leave of the
register that the two events share. -/
theorem simultaneousEvents : Obligations.SimultaneousEvents := by
  unfold Obligations.SimultaneousEvents
  intro s t ht
  obtain ⟨-, ⟨hr, rfl⟩ | ⟨hr, rfl⟩⟩ := step_next_cases ht
  case inl => exact ⟨fun _ => rfl, by simp [hr]⟩
  case inr =>
    refine ⟨by simp [hr], fun _ => ⟨fun hd _ => phaseWd_of_decode hd, fun hd _ => phaseNext_buf_of_decode hd,
      fun hd => ⟨phaseWd_of_decode hd, phaseNext_indFsStb_eq_false (phaseWd_le_timeout_of_decode hd)⟩,
      fun ha hv => ?trimAndPush, fun hfs hv => ?overrideAndPush,
      fun hd htick hv => ⟨phaseWd_of_tick hd htick, phaseNext_getLast? hd hv⟩, fun hfs => ?oneErrorClass⟩⟩
    case trimAndPush =>
      rw [phaseNext_buf_of_not_decode (by simp [ha]), if_pos ha, if_pos hv]
    case overrideAndPush =>
      obtain ⟨-, -, hcmd, -⟩ := phaseNext_overridden ((phaseNext_indFsStb s).mp hfs)
      exact ⟨hcmd, phaseNext_getLast? (act_ne_decode_of_indFsStb hfs) hv⟩
    case oneErrorClass =>
      rw [phaseNext_outs]
      exact decide_eq_false (act_ne_decode_of_indFsStb hfs)

end Sys2Proof.Machine
end

section
/-! PROOF. Reset and hazards (70_reset_and_hazards.md): RESET and the reset cycle (R270), and that a decode cycle comes
only right after a push (R280). -/

namespace Sys2Proof.Machine

/-! ### Reset (R270) -/

theorem exec_reset (s : State) : exec .reset s = .next s.loadReset := rfl

/-- Settles O2: it holds by the meaning of the operation. -/
theorem resetOperation : Obligations.ResetOperation := by
  unfold Obligations.ResetOperation
  intro s
  exact exec_reset s

/-- Settles O3: it holds; in a state with legal values `rst = 1` selects RESET alone, and the check of the values, which
reads no input, comes first. -/
theorem resetCycleOverridesEverything : Obligations.ResetCycleOverridesEverything := by
  unfold Obligations.ResetCycleOverridesEverything
  intro s he hr
  exact ⟨fun hl => step_of_rst ⟨he, hl⟩ hr, State.mealyOutputs_of_rst hr, step_of_not_legalValues he⟩

/-! ### A decode cycle comes only right after a push (R280) -/

theorem step_keeps_ready {s t : State} (h : step s = .next t) : t.Ready := by
  obtain ⟨u, hu, hready, -⟩ := cycleNeverStops s (ready_of_step_next h)
  obtain rfl : t = u := by simpa [h] using hu
  exact hready

/-- Only a push fills the buffer: what a reset, or phase 3 before the push, leaves of it has room. -/
theorem step_buf_length_lt_of_no_push {s t : State} (h : step s = .next t) (hv : s.input.capValid = false) :
    t.buf.length < t.params.cap := by
  obtain ⟨⟨-, -, -, -, hl⟩, ⟨-, rfl⟩ | ⟨-, rfl⟩⟩ := step_next_cases h
  · exact Nat.succ_pos _
  · have hbuf : (phaseNext s).buf = phaseBuffer s := by simp [phaseNext_buf, hv]
    rw [hbuf]
    exact phaseBuffer_length_lt hl

/-- Settles O50: it holds; a decode needs a full buffer, which no cycle without a push leaves, and a cycle without a
decode takes the push. -/
theorem decodeOnlyRightAfterAPush : Obligations.DecodeOnlyRightAfterAPush := by
  unfold Obligations.DecodeOnlyRightAfterAPush
  intro s t ht hv
  have hd : t.act ≠ .decode := fun hd =>
    (State.cap_le_of_act_decode hd).not_gt (step_buf_length_lt_of_no_push ht hv)
  exact ⟨hd, fun hr hpush => ⟨_, step_of_not_rst (step_keeps_ready ht) hr, phaseNext_getLast? hd hpush⟩⟩

end Sys2Proof.Machine
end
